-- ==== Sys2Proof/Word.lean ====
section
/-! DEFINITION. The widths the spec gives values (00_scope.md R9, R13): bytes, 16-bit words, and a memory as a list of
address and byte pairs. -/

namespace Sys2Proof

/-- An 8-bit register or memory cell (R9). -/
abbrev Byte := BitVec 8

/-- A 16-bit register, pair or address (R9). -/
abbrev Word := BitVec 16

/-- One array of bytes, as the list of those cells that do not hold `0x00`, addresses strictly rising. -/
abbrev Memory := List Host.Cell

namespace Word

/-- Bits 7:0. -/
def lo (w : Word) : Byte := w.extractLsb' 0 8

/-- Bits 15:8. -/
def hi (w : Word) : Byte := w.extractLsb' 8 8

/-- `hi ++ lo` (R10). -/
def ofBytes (hi lo : Byte) : Word := hi ++ lo

end Word

end Sys2Proof
end

