-- ==== Sys2Proof/Syntax.lean ====
section
/-! DEFINITION. The instruction set as syntax: one constructor of `Instr` for every row of spec/opcode_table.json
(the eleven ILLEGAL rows and the PREFIX CB row among them), the operand selectors of 30_encoding.md R171, and the
constructors again as functions of those selectors.

A constructor is named after its row's source mnemonic: the operation in small letters, then the operands;
`atHL` is the operand written `(HL)`, `atHLI` and `atHLD` are `(HL+)` and `(HL-)`, `atA8`, `atA16` and `atC` are
`(a8)`, `(a16)` and `(C)`.  An operand byte or word of the instruction is the constructor's argument. -/

namespace Sys2Proof

/-- The 3-bit operand selector `r[i]` (R11, R171): seven registers and the byte in memory at HL. -/
inductive R8 where
  | b | c | d | e | h | l | atHL | a
  deriving DecidableEq, Repr

/-- The 2-bit register pair selector `rp[p]` (R171). -/
inductive Rp where
  | bc | de | hl | sp
  deriving DecidableEq, Repr

/-- The 2-bit pair selector `rp2[p]` of PUSH and POP (R171). -/
inductive Rp2 where
  | bc | de | hl | af
  deriving DecidableEq, Repr

/-- The four conditions `cc[c]` (R171, R340). -/
inductive Cond where
  | nz | z | nc | c
  deriving DecidableEq, Repr

/-- The eight accumulator operations `alu[y]` (R171, R250). -/
inductive AluOp where
  | add | adc | sub | sbc | and | xor | or | cp
  deriving DecidableEq, Repr

/-- The eight rotates and shifts `rot[y]` of the CB space (R171, R305). -/
inductive RotOp where
  | rlc | rrc | rl | rr | sla | sra | swap | srl
  deriving DecidableEq, Repr

/-- The eleven byte values that are no instruction (R180). -/
inductive IllegalOp where
  | d3 | db | dd | e3 | e4 | eb | ec | ed | f4 | fc | fd
  deriving DecidableEq, Repr

/-- The instructions: one constructor for each of the 512 rows of spec/opcode_table.json, first those that
carry operand bytes (Lean's runtime wants them first), then the others in the table's order. -/
inductive Instr where
  -- with operand bytes
  | ld_BC_n16 (n : Word) | ld_B_n8 (n : Byte) | ld_atA16_SP (a : Word) | ld_C_n8 (n : Byte) | stop (n : Byte)
  | ld_DE_n16 (n : Word) | ld_D_n8 (n : Byte) | jr_e8 (e : Byte) | ld_E_n8 (n : Byte) | jr_NZ_e8 (e : Byte)
  | ld_HL_n16 (n : Word) | ld_H_n8 (n : Byte) | jr_Z_e8 (e : Byte) | ld_L_n8 (n : Byte) | jr_NC_e8 (e : Byte)
  | ld_SP_n16 (n : Word) | ld_atHL_n8 (n : Byte) | jr_C_e8 (e : Byte) | ld_A_n8 (n : Byte)
  | jp_NZ_a16 (a : Word) | jp_a16 (a : Word) | call_NZ_a16 (a : Word) | add_A_n8 (n : Byte)
  | jp_Z_a16 (a : Word) | prefixCb (o : Byte) | call_Z_a16 (a : Word) | call_a16 (a : Word)
  | adc_A_n8 (n : Byte) | jp_NC_a16 (a : Word) | call_NC_a16 (a : Word) | sub_A_n8 (n : Byte)
  | jp_C_a16 (a : Word) | call_C_a16 (a : Word) | sbc_A_n8 (n : Byte) | ldh_atA8_A (a : Byte)
  | and_A_n8 (n : Byte) | add_SP_e8 (e : Byte) | ld_atA16_A (a : Word) | xor_A_n8 (n : Byte)
  | ldh_A_atA8 (a : Byte) | or_A_n8 (n : Byte) | ld_HL_SP_e8 (e : Byte) | ld_A_atA16 (a : Word)
  | cp_A_n8 (n : Byte)
  -- 0x0x
  | nop | ld_atBC_A | inc_BC | inc_B | dec_B | rlca | add_HL_BC | ld_A_atBC | dec_BC | inc_C | dec_C | rrca
  -- 0x1x
  | ld_atDE_A | inc_DE | inc_D | dec_D | rla | add_HL_DE | ld_A_atDE | dec_DE | inc_E | dec_E | rra
  -- 0x2x
  | ld_atHLI_A | inc_HL | inc_H | dec_H | daa | add_HL_HL | ld_A_atHLI | dec_HL | inc_L | dec_L | cpl
  -- 0x3x
  | ld_atHLD_A | inc_SP | inc_atHL | dec_atHL | scf | add_HL_SP | ld_A_atHLD | dec_SP | inc_A | dec_A | ccf
  -- 0x4x
  | ld_B_B | ld_B_C | ld_B_D | ld_B_E | ld_B_H | ld_B_L | ld_B_atHL | ld_B_A | ld_C_B | ld_C_C | ld_C_D
  | ld_C_E | ld_C_H | ld_C_L | ld_C_atHL | ld_C_A
  -- 0x5x
  | ld_D_B | ld_D_C | ld_D_D | ld_D_E | ld_D_H | ld_D_L | ld_D_atHL | ld_D_A | ld_E_B | ld_E_C | ld_E_D
  | ld_E_E | ld_E_H | ld_E_L | ld_E_atHL | ld_E_A
  -- 0x6x
  | ld_H_B | ld_H_C | ld_H_D | ld_H_E | ld_H_H | ld_H_L | ld_H_atHL | ld_H_A | ld_L_B | ld_L_C | ld_L_D
  | ld_L_E | ld_L_H | ld_L_L | ld_L_atHL | ld_L_A
  -- 0x7x
  | ld_atHL_B | ld_atHL_C | ld_atHL_D | ld_atHL_E | ld_atHL_H | ld_atHL_L | halt | ld_atHL_A | ld_A_B | ld_A_C
  | ld_A_D | ld_A_E | ld_A_H | ld_A_L | ld_A_atHL | ld_A_A
  -- 0x8x
  | add_A_B | add_A_C | add_A_D | add_A_E | add_A_H | add_A_L | add_A_atHL | add_A_A | adc_A_B | adc_A_C
  | adc_A_D | adc_A_E | adc_A_H | adc_A_L | adc_A_atHL | adc_A_A
  -- 0x9x
  | sub_A_B | sub_A_C | sub_A_D | sub_A_E | sub_A_H | sub_A_L | sub_A_atHL | sub_A_A | sbc_A_B | sbc_A_C
  | sbc_A_D | sbc_A_E | sbc_A_H | sbc_A_L | sbc_A_atHL | sbc_A_A
  -- 0xAx
  | and_A_B | and_A_C | and_A_D | and_A_E | and_A_H | and_A_L | and_A_atHL | and_A_A | xor_A_B | xor_A_C
  | xor_A_D | xor_A_E | xor_A_H | xor_A_L | xor_A_atHL | xor_A_A
  -- 0xBx
  | or_A_B | or_A_C | or_A_D | or_A_E | or_A_H | or_A_L | or_A_atHL | or_A_A | cp_A_B | cp_A_C | cp_A_D
  | cp_A_E | cp_A_H | cp_A_L | cp_A_atHL | cp_A_A
  -- 0xCx
  | ret_NZ | pop_BC | push_BC | rst_00 | ret_Z | ret | rst_08
  -- 0xDx
  | ret_NC | pop_DE | illegal_D3 | push_DE | rst_10 | ret_C | reti | illegal_DB | illegal_DD | rst_18
  -- 0xEx
  | pop_HL | ldh_atC_A | illegal_E3 | illegal_E4 | push_HL | rst_20 | jp_HL | illegal_EB | illegal_EC
  | illegal_ED | rst_28
  -- 0xFx
  | pop_AF | ldh_A_atC | di | illegal_F4 | push_AF | rst_30 | ld_SP_HL | ei | illegal_FC | illegal_FD | rst_38
  -- 0xCB 0x0x
  | rlc_B | rlc_C | rlc_D | rlc_E | rlc_H | rlc_L | rlc_atHL | rlc_A | rrc_B | rrc_C | rrc_D | rrc_E | rrc_H
  | rrc_L | rrc_atHL | rrc_A
  -- 0xCB 0x1x
  | rl_B | rl_C | rl_D | rl_E | rl_H | rl_L | rl_atHL | rl_A | rr_B | rr_C | rr_D | rr_E | rr_H | rr_L
  | rr_atHL | rr_A
  -- 0xCB 0x2x
  | sla_B | sla_C | sla_D | sla_E | sla_H | sla_L | sla_atHL | sla_A | sra_B | sra_C | sra_D | sra_E | sra_H
  | sra_L | sra_atHL | sra_A
  -- 0xCB 0x3x
  | swap_B | swap_C | swap_D | swap_E | swap_H | swap_L | swap_atHL | swap_A | srl_B | srl_C | srl_D | srl_E
  | srl_H | srl_L | srl_atHL | srl_A
  -- 0xCB 0x4x
  | bit_0_B | bit_0_C | bit_0_D | bit_0_E | bit_0_H | bit_0_L | bit_0_atHL | bit_0_A | bit_1_B | bit_1_C
  | bit_1_D | bit_1_E | bit_1_H | bit_1_L | bit_1_atHL | bit_1_A
  -- 0xCB 0x5x
  | bit_2_B | bit_2_C | bit_2_D | bit_2_E | bit_2_H | bit_2_L | bit_2_atHL | bit_2_A | bit_3_B | bit_3_C
  | bit_3_D | bit_3_E | bit_3_H | bit_3_L | bit_3_atHL | bit_3_A
  -- 0xCB 0x6x
  | bit_4_B | bit_4_C | bit_4_D | bit_4_E | bit_4_H | bit_4_L | bit_4_atHL | bit_4_A | bit_5_B | bit_5_C
  | bit_5_D | bit_5_E | bit_5_H | bit_5_L | bit_5_atHL | bit_5_A
  -- 0xCB 0x7x
  | bit_6_B | bit_6_C | bit_6_D | bit_6_E | bit_6_H | bit_6_L | bit_6_atHL | bit_6_A | bit_7_B | bit_7_C
  | bit_7_D | bit_7_E | bit_7_H | bit_7_L | bit_7_atHL | bit_7_A
  -- 0xCB 0x8x
  | res_0_B | res_0_C | res_0_D | res_0_E | res_0_H | res_0_L | res_0_atHL | res_0_A | res_1_B | res_1_C
  | res_1_D | res_1_E | res_1_H | res_1_L | res_1_atHL | res_1_A
  -- 0xCB 0x9x
  | res_2_B | res_2_C | res_2_D | res_2_E | res_2_H | res_2_L | res_2_atHL | res_2_A | res_3_B | res_3_C
  | res_3_D | res_3_E | res_3_H | res_3_L | res_3_atHL | res_3_A
  -- 0xCB 0xAx
  | res_4_B | res_4_C | res_4_D | res_4_E | res_4_H | res_4_L | res_4_atHL | res_4_A | res_5_B | res_5_C
  | res_5_D | res_5_E | res_5_H | res_5_L | res_5_atHL | res_5_A
  -- 0xCB 0xBx
  | res_6_B | res_6_C | res_6_D | res_6_E | res_6_H | res_6_L | res_6_atHL | res_6_A | res_7_B | res_7_C
  | res_7_D | res_7_E | res_7_H | res_7_L | res_7_atHL | res_7_A
  -- 0xCB 0xCx
  | set_0_B | set_0_C | set_0_D | set_0_E | set_0_H | set_0_L | set_0_atHL | set_0_A | set_1_B | set_1_C
  | set_1_D | set_1_E | set_1_H | set_1_L | set_1_atHL | set_1_A
  -- 0xCB 0xDx
  | set_2_B | set_2_C | set_2_D | set_2_E | set_2_H | set_2_L | set_2_atHL | set_2_A | set_3_B | set_3_C
  | set_3_D | set_3_E | set_3_H | set_3_L | set_3_atHL | set_3_A
  -- 0xCB 0xEx
  | set_4_B | set_4_C | set_4_D | set_4_E | set_4_H | set_4_L | set_4_atHL | set_4_A | set_5_B | set_5_C
  | set_5_D | set_5_E | set_5_H | set_5_L | set_5_atHL | set_5_A
  -- 0xCB 0xFx
  | set_6_B | set_6_C | set_6_D | set_6_E | set_6_H | set_6_L | set_6_atHL | set_6_A | set_7_B | set_7_C
  | set_7_D | set_7_E | set_7_H | set_7_L | set_7_atHL | set_7_A
  deriving DecidableEq, Repr

namespace Instr

/-- `LD r[y],r[z]` (R176; R200, R202, R203): the 64 opcodes 0x40-0x7F; the slot of `LD (HL),(HL)` is `HALT`. -/
def ldReg : R8 → R8 → Instr
  | .b, .b => .ld_B_B | .b, .c => .ld_B_C | .b, .d => .ld_B_D | .b, .e => .ld_B_E | .b, .h => .ld_B_H
  | .b, .l => .ld_B_L | .b, .atHL => .ld_B_atHL | .b, .a => .ld_B_A
  | .c, .b => .ld_C_B | .c, .c => .ld_C_C | .c, .d => .ld_C_D | .c, .e => .ld_C_E | .c, .h => .ld_C_H
  | .c, .l => .ld_C_L | .c, .atHL => .ld_C_atHL | .c, .a => .ld_C_A
  | .d, .b => .ld_D_B | .d, .c => .ld_D_C | .d, .d => .ld_D_D | .d, .e => .ld_D_E | .d, .h => .ld_D_H
  | .d, .l => .ld_D_L | .d, .atHL => .ld_D_atHL | .d, .a => .ld_D_A
  | .e, .b => .ld_E_B | .e, .c => .ld_E_C | .e, .d => .ld_E_D | .e, .e => .ld_E_E | .e, .h => .ld_E_H
  | .e, .l => .ld_E_L | .e, .atHL => .ld_E_atHL | .e, .a => .ld_E_A
  | .h, .b => .ld_H_B | .h, .c => .ld_H_C | .h, .d => .ld_H_D | .h, .e => .ld_H_E | .h, .h => .ld_H_H
  | .h, .l => .ld_H_L | .h, .atHL => .ld_H_atHL | .h, .a => .ld_H_A
  | .l, .b => .ld_L_B | .l, .c => .ld_L_C | .l, .d => .ld_L_D | .l, .e => .ld_L_E | .l, .h => .ld_L_H
  | .l, .l => .ld_L_L | .l, .atHL => .ld_L_atHL | .l, .a => .ld_L_A
  | .atHL, .b => .ld_atHL_B | .atHL, .c => .ld_atHL_C | .atHL, .d => .ld_atHL_D | .atHL, .e => .ld_atHL_E
  | .atHL, .h => .ld_atHL_H | .atHL, .l => .ld_atHL_L | .atHL, .atHL => .halt | .atHL, .a => .ld_atHL_A
  | .a, .b => .ld_A_B | .a, .c => .ld_A_C | .a, .d => .ld_A_D | .a, .e => .ld_A_E | .a, .h => .ld_A_H
  | .a, .l => .ld_A_L | .a, .atHL => .ld_A_atHL | .a, .a => .ld_A_A

/-- `LD r[y],n8` (R175; R201, R204). -/
def ldImm (r : R8) (n : Byte) : Instr :=
  match r with
  | .b => .ld_B_n8 n | .c => .ld_C_n8 n | .d => .ld_D_n8 n | .e => .ld_E_n8 n | .h => .ld_H_n8 n
  | .l => .ld_L_n8 n | .atHL => .ld_atHL_n8 n | .a => .ld_A_n8 n

/-- `alu[y] A,r[z]` (R177; R250). -/
def aluReg : AluOp → R8 → Instr
  | .add, .b => .add_A_B | .add, .c => .add_A_C | .add, .d => .add_A_D | .add, .e => .add_A_E
  | .add, .h => .add_A_H | .add, .l => .add_A_L | .add, .atHL => .add_A_atHL | .add, .a => .add_A_A
  | .adc, .b => .adc_A_B | .adc, .c => .adc_A_C | .adc, .d => .adc_A_D | .adc, .e => .adc_A_E
  | .adc, .h => .adc_A_H | .adc, .l => .adc_A_L | .adc, .atHL => .adc_A_atHL | .adc, .a => .adc_A_A
  | .sub, .b => .sub_A_B | .sub, .c => .sub_A_C | .sub, .d => .sub_A_D | .sub, .e => .sub_A_E
  | .sub, .h => .sub_A_H | .sub, .l => .sub_A_L | .sub, .atHL => .sub_A_atHL | .sub, .a => .sub_A_A
  | .sbc, .b => .sbc_A_B | .sbc, .c => .sbc_A_C | .sbc, .d => .sbc_A_D | .sbc, .e => .sbc_A_E
  | .sbc, .h => .sbc_A_H | .sbc, .l => .sbc_A_L | .sbc, .atHL => .sbc_A_atHL | .sbc, .a => .sbc_A_A
  | .and, .b => .and_A_B | .and, .c => .and_A_C | .and, .d => .and_A_D | .and, .e => .and_A_E
  | .and, .h => .and_A_H | .and, .l => .and_A_L | .and, .atHL => .and_A_atHL | .and, .a => .and_A_A
  | .xor, .b => .xor_A_B | .xor, .c => .xor_A_C | .xor, .d => .xor_A_D | .xor, .e => .xor_A_E
  | .xor, .h => .xor_A_H | .xor, .l => .xor_A_L | .xor, .atHL => .xor_A_atHL | .xor, .a => .xor_A_A
  | .or, .b => .or_A_B | .or, .c => .or_A_C | .or, .d => .or_A_D | .or, .e => .or_A_E | .or, .h => .or_A_H
  | .or, .l => .or_A_L | .or, .atHL => .or_A_atHL | .or, .a => .or_A_A
  | .cp, .b => .cp_A_B | .cp, .c => .cp_A_C | .cp, .d => .cp_A_D | .cp, .e => .cp_A_E | .cp, .h => .cp_A_H
  | .cp, .l => .cp_A_L | .cp, .atHL => .cp_A_atHL | .cp, .a => .cp_A_A

/-- `alu[y] A,n8` (R178; R250). -/
def aluImm (r : AluOp) (n : Byte) : Instr :=
  match r with
  | .add => .add_A_n8 n | .adc => .adc_A_n8 n | .sub => .sub_A_n8 n | .sbc => .sbc_A_n8 n | .and => .and_A_n8 n
  | .xor => .xor_A_n8 n | .or => .or_A_n8 n | .cp => .cp_A_n8 n

/-- `INC r[y]` (R175; R260, R261). -/
def incReg : R8 → Instr
  | .b => .inc_B | .c => .inc_C | .d => .inc_D | .e => .inc_E | .h => .inc_H | .l => .inc_L
  | .atHL => .inc_atHL | .a => .inc_A

/-- `DEC r[y]` (R175; R262, R263). -/
def decReg : R8 → Instr
  | .b => .dec_B | .c => .dec_C | .d => .dec_D | .e => .dec_E | .h => .dec_H | .l => .dec_L
  | .atHL => .dec_atHL | .a => .dec_A

/-- `LD rp[p],n16` (R175; R230). -/
def ldPair (r : Rp) (n : Word) : Instr :=
  match r with
  | .bc => .ld_BC_n16 n | .de => .ld_DE_n16 n | .hl => .ld_HL_n16 n | .sp => .ld_SP_n16 n

/-- `ADD HL,rp[p]` (R175; R290). -/
def addHL : Rp → Instr
  | .bc => .add_HL_BC | .de => .add_HL_DE | .hl => .add_HL_HL | .sp => .add_HL_SP

/-- `INC rp[p]` (R175; R291). -/
def incPair : Rp → Instr
  | .bc => .inc_BC | .de => .inc_DE | .hl => .inc_HL | .sp => .inc_SP

/-- `DEC rp[p]` (R175; R292). -/
def decPair : Rp → Instr
  | .bc => .dec_BC | .de => .dec_DE | .hl => .dec_HL | .sp => .dec_SP

/-- `PUSH rp2[p]` (R178; R233). -/
def pushPair : Rp2 → Instr
  | .bc => .push_BC | .de => .push_DE | .hl => .push_HL | .af => .push_AF

/-- `POP rp2[p]` (R178; R234, R235). -/
def popPair : Rp2 → Instr
  | .bc => .pop_BC | .de => .pop_DE | .hl => .pop_HL | .af => .pop_AF

/-- `JP cc[y],a16` (R178; R331). -/
def jpIf (r : Cond) (a : Word) : Instr :=
  match r with
  | .nz => .jp_NZ_a16 a | .z => .jp_Z_a16 a | .nc => .jp_NC_a16 a | .c => .jp_C_a16 a

/-- `JR cc[y-4],e8` (R175; R334). -/
def jrIf (r : Cond) (e : Byte) : Instr :=
  match r with
  | .nz => .jr_NZ_e8 e | .z => .jr_Z_e8 e | .nc => .jr_NC_e8 e | .c => .jr_C_e8 e

/-- `CALL cc[y],a16` (R178; R336). -/
def callIf (r : Cond) (a : Word) : Instr :=
  match r with
  | .nz => .call_NZ_a16 a | .z => .call_Z_a16 a | .nc => .call_NC_a16 a | .c => .call_C_a16 a

/-- `RET cc[y]` (R178; R338). -/
def retIf : Cond → Instr
  | .nz => .ret_NZ | .z => .ret_Z | .nc => .ret_NC | .c => .ret_C

/-- `RST 8*y` (R178; R345). -/
def rst : Fin 8 → Instr
  | 0 => .rst_00 | 1 => .rst_08 | 2 => .rst_10 | 3 => .rst_18 | 4 => .rst_20 | 5 => .rst_28 | 6 => .rst_30
  | 7 => .rst_38

/-- `rot[y] r[z]` of the CB space (R179; R306 to R313). -/
def rot : RotOp → R8 → Instr
  | .rlc, .b => .rlc_B | .rlc, .c => .rlc_C | .rlc, .d => .rlc_D | .rlc, .e => .rlc_E | .rlc, .h => .rlc_H
  | .rlc, .l => .rlc_L | .rlc, .atHL => .rlc_atHL | .rlc, .a => .rlc_A
  | .rrc, .b => .rrc_B | .rrc, .c => .rrc_C | .rrc, .d => .rrc_D | .rrc, .e => .rrc_E | .rrc, .h => .rrc_H
  | .rrc, .l => .rrc_L | .rrc, .atHL => .rrc_atHL | .rrc, .a => .rrc_A
  | .rl, .b => .rl_B | .rl, .c => .rl_C | .rl, .d => .rl_D | .rl, .e => .rl_E | .rl, .h => .rl_H
  | .rl, .l => .rl_L | .rl, .atHL => .rl_atHL | .rl, .a => .rl_A
  | .rr, .b => .rr_B | .rr, .c => .rr_C | .rr, .d => .rr_D | .rr, .e => .rr_E | .rr, .h => .rr_H
  | .rr, .l => .rr_L | .rr, .atHL => .rr_atHL | .rr, .a => .rr_A
  | .sla, .b => .sla_B | .sla, .c => .sla_C | .sla, .d => .sla_D | .sla, .e => .sla_E | .sla, .h => .sla_H
  | .sla, .l => .sla_L | .sla, .atHL => .sla_atHL | .sla, .a => .sla_A
  | .sra, .b => .sra_B | .sra, .c => .sra_C | .sra, .d => .sra_D | .sra, .e => .sra_E | .sra, .h => .sra_H
  | .sra, .l => .sra_L | .sra, .atHL => .sra_atHL | .sra, .a => .sra_A
  | .swap, .b => .swap_B | .swap, .c => .swap_C | .swap, .d => .swap_D | .swap, .e => .swap_E
  | .swap, .h => .swap_H | .swap, .l => .swap_L | .swap, .atHL => .swap_atHL | .swap, .a => .swap_A
  | .srl, .b => .srl_B | .srl, .c => .srl_C | .srl, .d => .srl_D | .srl, .e => .srl_E | .srl, .h => .srl_H
  | .srl, .l => .srl_L | .srl, .atHL => .srl_atHL | .srl, .a => .srl_A

/-- `BIT y,r[z]` (R179; R315). -/
def bit (n : Fin 8) (r : R8) : Instr :=
  match n with
  | 0 => match r with
    | .b => .bit_0_B | .c => .bit_0_C | .d => .bit_0_D | .e => .bit_0_E | .h => .bit_0_H | .l => .bit_0_L
    | .atHL => .bit_0_atHL | .a => .bit_0_A
  | 1 => match r with
    | .b => .bit_1_B | .c => .bit_1_C | .d => .bit_1_D | .e => .bit_1_E | .h => .bit_1_H | .l => .bit_1_L
    | .atHL => .bit_1_atHL | .a => .bit_1_A
  | 2 => match r with
    | .b => .bit_2_B | .c => .bit_2_C | .d => .bit_2_D | .e => .bit_2_E | .h => .bit_2_H | .l => .bit_2_L
    | .atHL => .bit_2_atHL | .a => .bit_2_A
  | 3 => match r with
    | .b => .bit_3_B | .c => .bit_3_C | .d => .bit_3_D | .e => .bit_3_E | .h => .bit_3_H | .l => .bit_3_L
    | .atHL => .bit_3_atHL | .a => .bit_3_A
  | 4 => match r with
    | .b => .bit_4_B | .c => .bit_4_C | .d => .bit_4_D | .e => .bit_4_E | .h => .bit_4_H | .l => .bit_4_L
    | .atHL => .bit_4_atHL | .a => .bit_4_A
  | 5 => match r with
    | .b => .bit_5_B | .c => .bit_5_C | .d => .bit_5_D | .e => .bit_5_E | .h => .bit_5_H | .l => .bit_5_L
    | .atHL => .bit_5_atHL | .a => .bit_5_A
  | 6 => match r with
    | .b => .bit_6_B | .c => .bit_6_C | .d => .bit_6_D | .e => .bit_6_E | .h => .bit_6_H | .l => .bit_6_L
    | .atHL => .bit_6_atHL | .a => .bit_6_A
  | 7 => match r with
    | .b => .bit_7_B | .c => .bit_7_C | .d => .bit_7_D | .e => .bit_7_E | .h => .bit_7_H | .l => .bit_7_L
    | .atHL => .bit_7_atHL | .a => .bit_7_A

/-- `RES y,r[z]` (R179; R316). -/
def res (n : Fin 8) (r : R8) : Instr :=
  match n with
  | 0 => match r with
    | .b => .res_0_B | .c => .res_0_C | .d => .res_0_D | .e => .res_0_E | .h => .res_0_H | .l => .res_0_L
    | .atHL => .res_0_atHL | .a => .res_0_A
  | 1 => match r with
    | .b => .res_1_B | .c => .res_1_C | .d => .res_1_D | .e => .res_1_E | .h => .res_1_H | .l => .res_1_L
    | .atHL => .res_1_atHL | .a => .res_1_A
  | 2 => match r with
    | .b => .res_2_B | .c => .res_2_C | .d => .res_2_D | .e => .res_2_E | .h => .res_2_H | .l => .res_2_L
    | .atHL => .res_2_atHL | .a => .res_2_A
  | 3 => match r with
    | .b => .res_3_B | .c => .res_3_C | .d => .res_3_D | .e => .res_3_E | .h => .res_3_H | .l => .res_3_L
    | .atHL => .res_3_atHL | .a => .res_3_A
  | 4 => match r with
    | .b => .res_4_B | .c => .res_4_C | .d => .res_4_D | .e => .res_4_E | .h => .res_4_H | .l => .res_4_L
    | .atHL => .res_4_atHL | .a => .res_4_A
  | 5 => match r with
    | .b => .res_5_B | .c => .res_5_C | .d => .res_5_D | .e => .res_5_E | .h => .res_5_H | .l => .res_5_L
    | .atHL => .res_5_atHL | .a => .res_5_A
  | 6 => match r with
    | .b => .res_6_B | .c => .res_6_C | .d => .res_6_D | .e => .res_6_E | .h => .res_6_H | .l => .res_6_L
    | .atHL => .res_6_atHL | .a => .res_6_A
  | 7 => match r with
    | .b => .res_7_B | .c => .res_7_C | .d => .res_7_D | .e => .res_7_E | .h => .res_7_H | .l => .res_7_L
    | .atHL => .res_7_atHL | .a => .res_7_A

/-- `SET y,r[z]` (R179; R317). -/
def set (n : Fin 8) (r : R8) : Instr :=
  match n with
  | 0 => match r with
    | .b => .set_0_B | .c => .set_0_C | .d => .set_0_D | .e => .set_0_E | .h => .set_0_H | .l => .set_0_L
    | .atHL => .set_0_atHL | .a => .set_0_A
  | 1 => match r with
    | .b => .set_1_B | .c => .set_1_C | .d => .set_1_D | .e => .set_1_E | .h => .set_1_H | .l => .set_1_L
    | .atHL => .set_1_atHL | .a => .set_1_A
  | 2 => match r with
    | .b => .set_2_B | .c => .set_2_C | .d => .set_2_D | .e => .set_2_E | .h => .set_2_H | .l => .set_2_L
    | .atHL => .set_2_atHL | .a => .set_2_A
  | 3 => match r with
    | .b => .set_3_B | .c => .set_3_C | .d => .set_3_D | .e => .set_3_E | .h => .set_3_H | .l => .set_3_L
    | .atHL => .set_3_atHL | .a => .set_3_A
  | 4 => match r with
    | .b => .set_4_B | .c => .set_4_C | .d => .set_4_D | .e => .set_4_E | .h => .set_4_H | .l => .set_4_L
    | .atHL => .set_4_atHL | .a => .set_4_A
  | 5 => match r with
    | .b => .set_5_B | .c => .set_5_C | .d => .set_5_D | .e => .set_5_E | .h => .set_5_H | .l => .set_5_L
    | .atHL => .set_5_atHL | .a => .set_5_A
  | 6 => match r with
    | .b => .set_6_B | .c => .set_6_C | .d => .set_6_D | .e => .set_6_E | .h => .set_6_H | .l => .set_6_L
    | .atHL => .set_6_atHL | .a => .set_6_A
  | 7 => match r with
    | .b => .set_7_B | .c => .set_7_C | .d => .set_7_D | .e => .set_7_E | .h => .set_7_H | .l => .set_7_L
    | .atHL => .set_7_atHL | .a => .set_7_A

/-- The eleven illegal opcodes (R180). -/
def illegal : IllegalOp → Instr
  | .d3 => .illegal_D3 | .db => .illegal_DB | .dd => .illegal_DD | .e3 => .illegal_E3 | .e4 => .illegal_E4
  | .eb => .illegal_EB | .ec => .illegal_EC | .ed => .illegal_ED | .f4 => .illegal_F4 | .fc => .illegal_FC
  | .fd => .illegal_FD

end Instr

end Sys2Proof
end

