-- ==== Sys2Proof/Decode.lean ====
section
/-! DEFINITION. The decoder (30_encoding.md R170 to R182), written from the fields of the opcode byte, total on any bytes;
after it the encoder, written from the rows of spec/opcode_table.json, and the reading of a table word. -/

namespace Sys2Proof

/-! ### Fields (R171) -/

/-- `x`: bits 7:6. -/
def opX (b : Byte) : Nat := (b.extractLsb' 6 2).toNat

/-- `y`: bits 5:3. -/
def opY (b : Byte) : Nat := (b.extractLsb' 3 3).toNat

/-- `z`: bits 2:0. -/
def opZ (b : Byte) : Nat := (b.extractLsb' 0 3).toNat

/-- `p`: bits 5:4. -/
def opP (b : Byte) : Nat := (b.extractLsb' 4 2).toNat

/-- `q`: bit 3. -/
def opQ (b : Byte) : Bool := b.getLsbD 3

/-- `r[i]`. -/
def r8Of (i : Nat) : R8 :=
  match i with
  | 0 => .b
  | 1 => .c
  | 2 => .d
  | 3 => .e
  | 4 => .h
  | 5 => .l
  | 6 => .atHL
  | _ => .a

/-- `rp[p]`. -/
def rpOf (p : Nat) : Rp :=
  match p with
  | 0 => .bc
  | 1 => .de
  | 2 => .hl
  | _ => .sp

/-- `rp2[p]`. -/
def rp2Of (p : Nat) : Rp2 :=
  match p with
  | 0 => .bc
  | 1 => .de
  | 2 => .hl
  | _ => .af

/-- `cc[c]`. -/
def condOf (c : Nat) : Cond :=
  match c with
  | 0 => .nz
  | 1 => .z
  | 2 => .nc
  | _ => .c

/-- `alu[y]`. -/
def aluOf (y : Nat) : AluOp :=
  match y with
  | 0 => .add
  | 1 => .adc
  | 2 => .sub
  | 3 => .sbc
  | 4 => .and
  | 5 => .xor
  | 6 => .or
  | _ => .cp

/-- `rot[y]`. -/
def rotOf (y : Nat) : RotOp :=
  match y with
  | 0 => .rlc
  | 1 => .rrc
  | 2 => .rl
  | 3 => .rr
  | 4 => .sla
  | 5 => .sra
  | 6 => .swap
  | _ => .srl

/-! The numbers of the selectors. -/

/-- `i` with `r[i]` this operand. -/
def R8.code : R8 → Nat
  | .b => 0
  | .c => 1
  | .d => 2
  | .e => 3
  | .h => 4
  | .l => 5
  | .atHL => 6
  | .a => 7

/-- `p` with `rp[p]` this pair. -/
def Rp.code : Rp → Nat
  | .bc => 0
  | .de => 1
  | .hl => 2
  | .sp => 3

/-- `p` with `rp2[p]` this pair. -/
def Rp2.code : Rp2 → Nat
  | .bc => 0
  | .de => 1
  | .hl => 2
  | .af => 3

/-- `c` with `cc[c]` this condition. -/
def Cond.code : Cond → Nat
  | .nz => 0
  | .z => 1
  | .nc => 2
  | .c => 3

/-- `y` with `alu[y]` this operation. -/
def AluOp.code : AluOp → Nat
  | .add => 0
  | .adc => 1
  | .sub => 2
  | .sbc => 3
  | .and => 4
  | .xor => 5
  | .or => 6
  | .cp => 7

/-- `y` with `rot[y]` this operation. -/
def RotOp.code : RotOp → Nat
  | .rlc => 0
  | .rrc => 1
  | .rl => 2
  | .rr => 3
  | .sla => 4
  | .sra => 5
  | .swap => 6
  | .srl => 7

/-- The opcode byte of an illegal opcode (R180). -/
def IllegalOp.opcode : IllegalOp → Byte
  | .d3 => 0xD3#8
  | .db => 0xDB#8
  | .dd => 0xDD#8
  | .e3 => 0xE3#8
  | .e4 => 0xE4#8
  | .eb => 0xEB#8
  | .ec => 0xEC#8
  | .ed => 0xED#8
  | .f4 => 0xF4#8
  | .fc => 0xFC#8
  | .fd => 0xFD#8

/-- A bit number or an `RST` selector. -/
def fin8Of (y : Nat) : Fin 8 := Fin.ofNat 8 y

/-! ### The primary table (R175 to R178, R180) -/

/-- Quadrant `x = 0` (R175); `n` is byte 1, `w` is bytes 1 and 2. -/
def decodeX0 (op n : Byte) (w : Word) : Instr :=
  match opZ op with
  | 0 =>
    match opY op with
    | 0 => .nop
    | 1 => .ld_atA16_SP w
    | 2 => .stop n
    | 3 => .jr_e8 n
    | y => .jrIf (condOf (y - 4)) n
  | 1 => if opQ op then .addHL (rpOf (opP op)) else .ldPair (rpOf (opP op)) w
  | 2 =>
    match opP op with
    | 0 => if opQ op then .ld_A_atBC else .ld_atBC_A
    | 1 => if opQ op then .ld_A_atDE else .ld_atDE_A
    | 2 => if opQ op then .ld_A_atHLI else .ld_atHLI_A
    | _ => if opQ op then .ld_A_atHLD else .ld_atHLD_A
  | 3 => if opQ op then .decPair (rpOf (opP op)) else .incPair (rpOf (opP op))
  | 4 => .incReg (r8Of (opY op))
  | 5 => .decReg (r8Of (opY op))
  | 6 => .ldImm (r8Of (opY op)) n
  | _ =>
    match opY op with
    | 0 => .rlca
    | 1 => .rrca
    | 2 => .rla
    | 3 => .rra
    | 4 => .daa
    | 5 => .cpl
    | 6 => .scf
    | _ => .ccf

/-- Quadrant `x = 3` (R178, R180). -/
def decodeX3 (op n : Byte) (w : Word) : Instr :=
  match opZ op with
  | 0 =>
    match opY op with
    | 4 => .ldh_atA8_A n
    | 5 => .add_SP_e8 n
    | 6 => .ldh_A_atA8 n
    | 7 => .ld_HL_SP_e8 n
    | y => .retIf (condOf y)
  | 1 =>
    if opQ op then
      match opP op with
      | 0 => .ret
      | 1 => .reti
      | 2 => .jp_HL
      | _ => .ld_SP_HL
    else .popPair (rp2Of (opP op))
  | 2 =>
    match opY op with
    | 4 => .ldh_atC_A
    | 5 => .ld_atA16_A w
    | 6 => .ldh_A_atC
    | 7 => .ld_A_atA16 w
    | y => .jpIf (condOf y) w
  | 3 =>
    match opY op with
    | 0 => .jp_a16 w
    | 1 => .prefixCb n
    | 2 => .illegal_D3
    | 3 => .illegal_DB
    | 4 => .illegal_E3
    | 5 => .illegal_EB
    | 6 => .di
    | _ => .ei
  | 4 =>
    match opY op with
    | 4 => .illegal_E4
    | 5 => .illegal_EC
    | 6 => .illegal_F4
    | 7 => .illegal_FC
    | y => .callIf (condOf y) w
  | 5 =>
    if opQ op then
      match opP op with
      | 0 => .call_a16 w
      | 1 => .illegal_DD
      | 2 => .illegal_ED
      | _ => .illegal_FD
    else .pushPair (rp2Of (opP op))
  | 6 => .aluImm (aluOf (opY op)) n
  | _ => .rst (fin8Of (opY op))

/-- The primary table: what byte 0 selects, with the bytes after it. For 0xCB it is the row `PREFIX CB`. -/
def decodePrimary (b0 b1 b2 : Byte) : Instr :=
  match opX b0 with
  | 0 => decodeX0 b0 b1 (Word.ofBytes b2 b1)
  | 1 => .ldReg (r8Of (opY b0)) (r8Of (opZ b0))
  | 2 => .aluReg (aluOf (opY b0)) (r8Of (opZ b0))
  | _ => decodeX3 b0 b1 (Word.ofBytes b2 b1)

/-! ### The secondary table (R179) -/

/-- What `op2` selects after 0xCB. -/
def decodeCb (op2 : Byte) : Instr :=
  match opX op2 with
  | 0 => .rot (rotOf (opY op2)) (r8Of (opZ op2))
  | 1 => .bit (fin8Of (opY op2)) (r8Of (opZ op2))
  | 2 => .res (fin8Of (opY op2)) (r8Of (opZ op2))
  | _ => .set (fin8Of (opY op2)) (r8Of (opZ op2))

/-! ### Decoding -/

/-- The instruction that three bytes begin with; the bytes it does not have are ignored. -/
def decodeBytes (b0 b1 b2 : Byte) : Instr := if b0 = 0xCB#8 then decodeCb b1 else decodePrimary b0 b1 b2

/-- The length byte 0 announces (R173). -/
def opLength (b0 : Byte) : Nat :=
  match opX b0 with
  | 0 =>
    match opZ b0 with
    | 0 =>
      match opY b0 with
      | 0 => 1
      | 1 => 3
      | _ => 2
    | 1 => if opQ b0 then 1 else 3
    | 6 => 2
    | _ => 1
  | 3 =>
    match opZ b0 with
    | 0 => if opY b0 < 4 then 1 else 2
    | 2 =>
      match opY b0 with
      | 4 => 1
      | 6 => 1
      | _ => 3
    | 3 =>
      match opY b0 with
      | 0 => 3
      | 1 => 2
      | _ => 1
    | 4 => if opY b0 < 4 then 3 else 1
    | 5 => if b0 = 0xCD#8 then 3 else 1
    | 6 => 2
    | _ => 1
  | _ => 1

/-- Why a list of bytes is no instruction. -/
inductive DecodeError where
  /-- there is no byte 0 -/
  | noBytes
  /-- byte 0 announces more bytes than there are -/
  | truncated (opcode : Byte)
  deriving DecidableEq, Repr

/-- Takes the first instruction off a list of bytes. Every byte 0 announces an instruction, one of the eleven illegal
ones among them (R180), so the only refusals are those of a list that ends too soon. -/
def decode (bytes : List Byte) : Except DecodeError (Instr × List Byte) :=
  match bytes with
  | [] => .error .noBytes
  | b0 :: rest =>
    match opLength b0, rest with
    | 1, rest => .ok (decodeBytes b0 0x00#8 0x00#8, rest)
    | 2, b1 :: rest => .ok (decodeBytes b0 b1 0x00#8, rest)
    | 3, b1 :: b2 :: rest => .ok (decodeBytes b0 b1 b2, rest)
    | _, _ => .error (.truncated b0)

/-- A word of spec/opcode_table.json as bytes in the order of memory, zeros after the bits the table gives. The table
numbers a CB row as `0xCB00 | op2` (R187), every other row from the least significant bit of byte 0. -/
def tableBytes (nbits w : Nat) : Byte × Byte × Byte :=
  if 8 < nbits ∧ nbits ≤ 16 ∧ w / 256 % 256 = 0xCB then (0xCB#8, BitVec.ofNat 8 w, 0x00#8)
  else
    let v := w % 2 ^ nbits
    (BitVec.ofNat 8 v, BitVec.ofNat 8 (v / 256), BitVec.ofNat 8 (v / 65536))

/-- What the decoder reads in a table word. A word of eight bits is an opcode byte alone, an entry of the primary
table: 0xCB alone is the row `PREFIX CB`, which reads as the constructor of that row (log entry 7). -/
def decodeTableWord (nbits w : Nat) : Option Instr :=
  let b := tableBytes nbits w
  if nbits ≤ 8 then some (decodePrimary b.1 b.2.1 b.2.2) else some (decodeBytes b.1 b.2.1 b.2.2)

/-! ### Encoding -/

/-- The bytes of an instruction, lowest address first: opcode, operand bytes (a word low byte first, R172). -/
def encode : Instr → List Byte
  | .nop => [0x00#8] | .ld_BC_n16 n => [0x01#8, n.lo, n.hi] | .ld_atBC_A => [0x02#8] | .inc_BC => [0x03#8]
  | .inc_B => [0x04#8] | .dec_B => [0x05#8] | .ld_B_n8 n => [0x06#8, n] | .rlca => [0x07#8]
  | .ld_atA16_SP a => [0x08#8, a.lo, a.hi] | .add_HL_BC => [0x09#8] | .ld_A_atBC => [0x0A#8] | .dec_BC => [0x0B#8]
  | .inc_C => [0x0C#8] | .dec_C => [0x0D#8] | .ld_C_n8 n => [0x0E#8, n] | .rrca => [0x0F#8]
  | .stop n => [0x10#8, n] | .ld_DE_n16 n => [0x11#8, n.lo, n.hi] | .ld_atDE_A => [0x12#8] | .inc_DE => [0x13#8]
  | .inc_D => [0x14#8] | .dec_D => [0x15#8] | .ld_D_n8 n => [0x16#8, n] | .rla => [0x17#8]
  | .jr_e8 e => [0x18#8, e] | .add_HL_DE => [0x19#8] | .ld_A_atDE => [0x1A#8] | .dec_DE => [0x1B#8]
  | .inc_E => [0x1C#8] | .dec_E => [0x1D#8] | .ld_E_n8 n => [0x1E#8, n] | .rra => [0x1F#8]
  | .jr_NZ_e8 e => [0x20#8, e] | .ld_HL_n16 n => [0x21#8, n.lo, n.hi] | .ld_atHLI_A => [0x22#8]
  | .inc_HL => [0x23#8] | .inc_H => [0x24#8] | .dec_H => [0x25#8] | .ld_H_n8 n => [0x26#8, n] | .daa => [0x27#8]
  | .jr_Z_e8 e => [0x28#8, e] | .add_HL_HL => [0x29#8] | .ld_A_atHLI => [0x2A#8] | .dec_HL => [0x2B#8]
  | .inc_L => [0x2C#8] | .dec_L => [0x2D#8] | .ld_L_n8 n => [0x2E#8, n] | .cpl => [0x2F#8]
  | .jr_NC_e8 e => [0x30#8, e] | .ld_SP_n16 n => [0x31#8, n.lo, n.hi] | .ld_atHLD_A => [0x32#8]
  | .inc_SP => [0x33#8] | .inc_atHL => [0x34#8] | .dec_atHL => [0x35#8] | .ld_atHL_n8 n => [0x36#8, n]
  | .scf => [0x37#8] | .jr_C_e8 e => [0x38#8, e] | .add_HL_SP => [0x39#8] | .ld_A_atHLD => [0x3A#8]
  | .dec_SP => [0x3B#8] | .inc_A => [0x3C#8] | .dec_A => [0x3D#8] | .ld_A_n8 n => [0x3E#8, n] | .ccf => [0x3F#8]
  | .ld_B_B => [0x40#8] | .ld_B_C => [0x41#8] | .ld_B_D => [0x42#8] | .ld_B_E => [0x43#8] | .ld_B_H => [0x44#8]
  | .ld_B_L => [0x45#8] | .ld_B_atHL => [0x46#8] | .ld_B_A => [0x47#8] | .ld_C_B => [0x48#8] | .ld_C_C => [0x49#8]
  | .ld_C_D => [0x4A#8] | .ld_C_E => [0x4B#8] | .ld_C_H => [0x4C#8] | .ld_C_L => [0x4D#8] | .ld_C_atHL => [0x4E#8]
  | .ld_C_A => [0x4F#8] | .ld_D_B => [0x50#8] | .ld_D_C => [0x51#8] | .ld_D_D => [0x52#8] | .ld_D_E => [0x53#8]
  | .ld_D_H => [0x54#8] | .ld_D_L => [0x55#8] | .ld_D_atHL => [0x56#8] | .ld_D_A => [0x57#8] | .ld_E_B => [0x58#8]
  | .ld_E_C => [0x59#8] | .ld_E_D => [0x5A#8] | .ld_E_E => [0x5B#8] | .ld_E_H => [0x5C#8] | .ld_E_L => [0x5D#8]
  | .ld_E_atHL => [0x5E#8] | .ld_E_A => [0x5F#8] | .ld_H_B => [0x60#8] | .ld_H_C => [0x61#8] | .ld_H_D => [0x62#8]
  | .ld_H_E => [0x63#8] | .ld_H_H => [0x64#8] | .ld_H_L => [0x65#8] | .ld_H_atHL => [0x66#8] | .ld_H_A => [0x67#8]
  | .ld_L_B => [0x68#8] | .ld_L_C => [0x69#8] | .ld_L_D => [0x6A#8] | .ld_L_E => [0x6B#8] | .ld_L_H => [0x6C#8]
  | .ld_L_L => [0x6D#8] | .ld_L_atHL => [0x6E#8] | .ld_L_A => [0x6F#8] | .ld_atHL_B => [0x70#8]
  | .ld_atHL_C => [0x71#8] | .ld_atHL_D => [0x72#8] | .ld_atHL_E => [0x73#8] | .ld_atHL_H => [0x74#8]
  | .ld_atHL_L => [0x75#8] | .halt => [0x76#8] | .ld_atHL_A => [0x77#8] | .ld_A_B => [0x78#8] | .ld_A_C => [0x79#8]
  | .ld_A_D => [0x7A#8] | .ld_A_E => [0x7B#8] | .ld_A_H => [0x7C#8] | .ld_A_L => [0x7D#8] | .ld_A_atHL => [0x7E#8]
  | .ld_A_A => [0x7F#8] | .add_A_B => [0x80#8] | .add_A_C => [0x81#8] | .add_A_D => [0x82#8] | .add_A_E => [0x83#8]
  | .add_A_H => [0x84#8] | .add_A_L => [0x85#8] | .add_A_atHL => [0x86#8] | .add_A_A => [0x87#8]
  | .adc_A_B => [0x88#8] | .adc_A_C => [0x89#8] | .adc_A_D => [0x8A#8] | .adc_A_E => [0x8B#8]
  | .adc_A_H => [0x8C#8] | .adc_A_L => [0x8D#8] | .adc_A_atHL => [0x8E#8] | .adc_A_A => [0x8F#8]
  | .sub_A_B => [0x90#8] | .sub_A_C => [0x91#8] | .sub_A_D => [0x92#8] | .sub_A_E => [0x93#8]
  | .sub_A_H => [0x94#8] | .sub_A_L => [0x95#8] | .sub_A_atHL => [0x96#8] | .sub_A_A => [0x97#8]
  | .sbc_A_B => [0x98#8] | .sbc_A_C => [0x99#8] | .sbc_A_D => [0x9A#8] | .sbc_A_E => [0x9B#8]
  | .sbc_A_H => [0x9C#8] | .sbc_A_L => [0x9D#8] | .sbc_A_atHL => [0x9E#8] | .sbc_A_A => [0x9F#8]
  | .and_A_B => [0xA0#8] | .and_A_C => [0xA1#8] | .and_A_D => [0xA2#8] | .and_A_E => [0xA3#8]
  | .and_A_H => [0xA4#8] | .and_A_L => [0xA5#8] | .and_A_atHL => [0xA6#8] | .and_A_A => [0xA7#8]
  | .xor_A_B => [0xA8#8] | .xor_A_C => [0xA9#8] | .xor_A_D => [0xAA#8] | .xor_A_E => [0xAB#8]
  | .xor_A_H => [0xAC#8] | .xor_A_L => [0xAD#8] | .xor_A_atHL => [0xAE#8] | .xor_A_A => [0xAF#8]
  | .or_A_B => [0xB0#8] | .or_A_C => [0xB1#8] | .or_A_D => [0xB2#8] | .or_A_E => [0xB3#8] | .or_A_H => [0xB4#8]
  | .or_A_L => [0xB5#8] | .or_A_atHL => [0xB6#8] | .or_A_A => [0xB7#8] | .cp_A_B => [0xB8#8] | .cp_A_C => [0xB9#8]
  | .cp_A_D => [0xBA#8] | .cp_A_E => [0xBB#8] | .cp_A_H => [0xBC#8] | .cp_A_L => [0xBD#8] | .cp_A_atHL => [0xBE#8]
  | .cp_A_A => [0xBF#8] | .ret_NZ => [0xC0#8] | .pop_BC => [0xC1#8] | .jp_NZ_a16 a => [0xC2#8, a.lo, a.hi]
  | .jp_a16 a => [0xC3#8, a.lo, a.hi] | .call_NZ_a16 a => [0xC4#8, a.lo, a.hi] | .push_BC => [0xC5#8]
  | .add_A_n8 n => [0xC6#8, n] | .rst_00 => [0xC7#8] | .ret_Z => [0xC8#8] | .ret => [0xC9#8]
  | .jp_Z_a16 a => [0xCA#8, a.lo, a.hi] | .prefixCb o => [0xCB#8, o] | .call_Z_a16 a => [0xCC#8, a.lo, a.hi]
  | .call_a16 a => [0xCD#8, a.lo, a.hi] | .adc_A_n8 n => [0xCE#8, n] | .rst_08 => [0xCF#8] | .ret_NC => [0xD0#8]
  | .pop_DE => [0xD1#8] | .jp_NC_a16 a => [0xD2#8, a.lo, a.hi] | .illegal_D3 => [0xD3#8]
  | .call_NC_a16 a => [0xD4#8, a.lo, a.hi] | .push_DE => [0xD5#8] | .sub_A_n8 n => [0xD6#8, n]
  | .rst_10 => [0xD7#8] | .ret_C => [0xD8#8] | .reti => [0xD9#8] | .jp_C_a16 a => [0xDA#8, a.lo, a.hi]
  | .illegal_DB => [0xDB#8] | .call_C_a16 a => [0xDC#8, a.lo, a.hi] | .illegal_DD => [0xDD#8]
  | .sbc_A_n8 n => [0xDE#8, n] | .rst_18 => [0xDF#8] | .ldh_atA8_A a => [0xE0#8, a] | .pop_HL => [0xE1#8]
  | .ldh_atC_A => [0xE2#8] | .illegal_E3 => [0xE3#8] | .illegal_E4 => [0xE4#8] | .push_HL => [0xE5#8]
  | .and_A_n8 n => [0xE6#8, n] | .rst_20 => [0xE7#8] | .add_SP_e8 e => [0xE8#8, e] | .jp_HL => [0xE9#8]
  | .ld_atA16_A a => [0xEA#8, a.lo, a.hi] | .illegal_EB => [0xEB#8] | .illegal_EC => [0xEC#8]
  | .illegal_ED => [0xED#8] | .xor_A_n8 n => [0xEE#8, n] | .rst_28 => [0xEF#8] | .ldh_A_atA8 a => [0xF0#8, a]
  | .pop_AF => [0xF1#8] | .ldh_A_atC => [0xF2#8] | .di => [0xF3#8] | .illegal_F4 => [0xF4#8] | .push_AF => [0xF5#8]
  | .or_A_n8 n => [0xF6#8, n] | .rst_30 => [0xF7#8] | .ld_HL_SP_e8 e => [0xF8#8, e] | .ld_SP_HL => [0xF9#8]
  | .ld_A_atA16 a => [0xFA#8, a.lo, a.hi] | .ei => [0xFB#8] | .illegal_FC => [0xFC#8] | .illegal_FD => [0xFD#8]
  | .cp_A_n8 n => [0xFE#8, n] | .rst_38 => [0xFF#8] | .rlc_B => [0xCB#8, 0x00#8] | .rlc_C => [0xCB#8, 0x01#8]
  | .rlc_D => [0xCB#8, 0x02#8] | .rlc_E => [0xCB#8, 0x03#8] | .rlc_H => [0xCB#8, 0x04#8]
  | .rlc_L => [0xCB#8, 0x05#8] | .rlc_atHL => [0xCB#8, 0x06#8] | .rlc_A => [0xCB#8, 0x07#8]
  | .rrc_B => [0xCB#8, 0x08#8] | .rrc_C => [0xCB#8, 0x09#8] | .rrc_D => [0xCB#8, 0x0A#8]
  | .rrc_E => [0xCB#8, 0x0B#8] | .rrc_H => [0xCB#8, 0x0C#8] | .rrc_L => [0xCB#8, 0x0D#8]
  | .rrc_atHL => [0xCB#8, 0x0E#8] | .rrc_A => [0xCB#8, 0x0F#8] | .rl_B => [0xCB#8, 0x10#8]
  | .rl_C => [0xCB#8, 0x11#8] | .rl_D => [0xCB#8, 0x12#8] | .rl_E => [0xCB#8, 0x13#8] | .rl_H => [0xCB#8, 0x14#8]
  | .rl_L => [0xCB#8, 0x15#8] | .rl_atHL => [0xCB#8, 0x16#8] | .rl_A => [0xCB#8, 0x17#8]
  | .rr_B => [0xCB#8, 0x18#8] | .rr_C => [0xCB#8, 0x19#8] | .rr_D => [0xCB#8, 0x1A#8] | .rr_E => [0xCB#8, 0x1B#8]
  | .rr_H => [0xCB#8, 0x1C#8] | .rr_L => [0xCB#8, 0x1D#8] | .rr_atHL => [0xCB#8, 0x1E#8]
  | .rr_A => [0xCB#8, 0x1F#8] | .sla_B => [0xCB#8, 0x20#8] | .sla_C => [0xCB#8, 0x21#8]
  | .sla_D => [0xCB#8, 0x22#8] | .sla_E => [0xCB#8, 0x23#8] | .sla_H => [0xCB#8, 0x24#8]
  | .sla_L => [0xCB#8, 0x25#8] | .sla_atHL => [0xCB#8, 0x26#8] | .sla_A => [0xCB#8, 0x27#8]
  | .sra_B => [0xCB#8, 0x28#8] | .sra_C => [0xCB#8, 0x29#8] | .sra_D => [0xCB#8, 0x2A#8]
  | .sra_E => [0xCB#8, 0x2B#8] | .sra_H => [0xCB#8, 0x2C#8] | .sra_L => [0xCB#8, 0x2D#8]
  | .sra_atHL => [0xCB#8, 0x2E#8] | .sra_A => [0xCB#8, 0x2F#8] | .swap_B => [0xCB#8, 0x30#8]
  | .swap_C => [0xCB#8, 0x31#8] | .swap_D => [0xCB#8, 0x32#8] | .swap_E => [0xCB#8, 0x33#8]
  | .swap_H => [0xCB#8, 0x34#8] | .swap_L => [0xCB#8, 0x35#8] | .swap_atHL => [0xCB#8, 0x36#8]
  | .swap_A => [0xCB#8, 0x37#8] | .srl_B => [0xCB#8, 0x38#8] | .srl_C => [0xCB#8, 0x39#8]
  | .srl_D => [0xCB#8, 0x3A#8] | .srl_E => [0xCB#8, 0x3B#8] | .srl_H => [0xCB#8, 0x3C#8]
  | .srl_L => [0xCB#8, 0x3D#8] | .srl_atHL => [0xCB#8, 0x3E#8] | .srl_A => [0xCB#8, 0x3F#8]
  | .bit_0_B => [0xCB#8, 0x40#8] | .bit_0_C => [0xCB#8, 0x41#8] | .bit_0_D => [0xCB#8, 0x42#8]
  | .bit_0_E => [0xCB#8, 0x43#8] | .bit_0_H => [0xCB#8, 0x44#8] | .bit_0_L => [0xCB#8, 0x45#8]
  | .bit_0_atHL => [0xCB#8, 0x46#8] | .bit_0_A => [0xCB#8, 0x47#8] | .bit_1_B => [0xCB#8, 0x48#8]
  | .bit_1_C => [0xCB#8, 0x49#8] | .bit_1_D => [0xCB#8, 0x4A#8] | .bit_1_E => [0xCB#8, 0x4B#8]
  | .bit_1_H => [0xCB#8, 0x4C#8] | .bit_1_L => [0xCB#8, 0x4D#8] | .bit_1_atHL => [0xCB#8, 0x4E#8]
  | .bit_1_A => [0xCB#8, 0x4F#8] | .bit_2_B => [0xCB#8, 0x50#8] | .bit_2_C => [0xCB#8, 0x51#8]
  | .bit_2_D => [0xCB#8, 0x52#8] | .bit_2_E => [0xCB#8, 0x53#8] | .bit_2_H => [0xCB#8, 0x54#8]
  | .bit_2_L => [0xCB#8, 0x55#8] | .bit_2_atHL => [0xCB#8, 0x56#8] | .bit_2_A => [0xCB#8, 0x57#8]
  | .bit_3_B => [0xCB#8, 0x58#8] | .bit_3_C => [0xCB#8, 0x59#8] | .bit_3_D => [0xCB#8, 0x5A#8]
  | .bit_3_E => [0xCB#8, 0x5B#8] | .bit_3_H => [0xCB#8, 0x5C#8] | .bit_3_L => [0xCB#8, 0x5D#8]
  | .bit_3_atHL => [0xCB#8, 0x5E#8] | .bit_3_A => [0xCB#8, 0x5F#8] | .bit_4_B => [0xCB#8, 0x60#8]
  | .bit_4_C => [0xCB#8, 0x61#8] | .bit_4_D => [0xCB#8, 0x62#8] | .bit_4_E => [0xCB#8, 0x63#8]
  | .bit_4_H => [0xCB#8, 0x64#8] | .bit_4_L => [0xCB#8, 0x65#8] | .bit_4_atHL => [0xCB#8, 0x66#8]
  | .bit_4_A => [0xCB#8, 0x67#8] | .bit_5_B => [0xCB#8, 0x68#8] | .bit_5_C => [0xCB#8, 0x69#8]
  | .bit_5_D => [0xCB#8, 0x6A#8] | .bit_5_E => [0xCB#8, 0x6B#8] | .bit_5_H => [0xCB#8, 0x6C#8]
  | .bit_5_L => [0xCB#8, 0x6D#8] | .bit_5_atHL => [0xCB#8, 0x6E#8] | .bit_5_A => [0xCB#8, 0x6F#8]
  | .bit_6_B => [0xCB#8, 0x70#8] | .bit_6_C => [0xCB#8, 0x71#8] | .bit_6_D => [0xCB#8, 0x72#8]
  | .bit_6_E => [0xCB#8, 0x73#8] | .bit_6_H => [0xCB#8, 0x74#8] | .bit_6_L => [0xCB#8, 0x75#8]
  | .bit_6_atHL => [0xCB#8, 0x76#8] | .bit_6_A => [0xCB#8, 0x77#8] | .bit_7_B => [0xCB#8, 0x78#8]
  | .bit_7_C => [0xCB#8, 0x79#8] | .bit_7_D => [0xCB#8, 0x7A#8] | .bit_7_E => [0xCB#8, 0x7B#8]
  | .bit_7_H => [0xCB#8, 0x7C#8] | .bit_7_L => [0xCB#8, 0x7D#8] | .bit_7_atHL => [0xCB#8, 0x7E#8]
  | .bit_7_A => [0xCB#8, 0x7F#8] | .res_0_B => [0xCB#8, 0x80#8] | .res_0_C => [0xCB#8, 0x81#8]
  | .res_0_D => [0xCB#8, 0x82#8] | .res_0_E => [0xCB#8, 0x83#8] | .res_0_H => [0xCB#8, 0x84#8]
  | .res_0_L => [0xCB#8, 0x85#8] | .res_0_atHL => [0xCB#8, 0x86#8] | .res_0_A => [0xCB#8, 0x87#8]
  | .res_1_B => [0xCB#8, 0x88#8] | .res_1_C => [0xCB#8, 0x89#8] | .res_1_D => [0xCB#8, 0x8A#8]
  | .res_1_E => [0xCB#8, 0x8B#8] | .res_1_H => [0xCB#8, 0x8C#8] | .res_1_L => [0xCB#8, 0x8D#8]
  | .res_1_atHL => [0xCB#8, 0x8E#8] | .res_1_A => [0xCB#8, 0x8F#8] | .res_2_B => [0xCB#8, 0x90#8]
  | .res_2_C => [0xCB#8, 0x91#8] | .res_2_D => [0xCB#8, 0x92#8] | .res_2_E => [0xCB#8, 0x93#8]
  | .res_2_H => [0xCB#8, 0x94#8] | .res_2_L => [0xCB#8, 0x95#8] | .res_2_atHL => [0xCB#8, 0x96#8]
  | .res_2_A => [0xCB#8, 0x97#8] | .res_3_B => [0xCB#8, 0x98#8] | .res_3_C => [0xCB#8, 0x99#8]
  | .res_3_D => [0xCB#8, 0x9A#8] | .res_3_E => [0xCB#8, 0x9B#8] | .res_3_H => [0xCB#8, 0x9C#8]
  | .res_3_L => [0xCB#8, 0x9D#8] | .res_3_atHL => [0xCB#8, 0x9E#8] | .res_3_A => [0xCB#8, 0x9F#8]
  | .res_4_B => [0xCB#8, 0xA0#8] | .res_4_C => [0xCB#8, 0xA1#8] | .res_4_D => [0xCB#8, 0xA2#8]
  | .res_4_E => [0xCB#8, 0xA3#8] | .res_4_H => [0xCB#8, 0xA4#8] | .res_4_L => [0xCB#8, 0xA5#8]
  | .res_4_atHL => [0xCB#8, 0xA6#8] | .res_4_A => [0xCB#8, 0xA7#8] | .res_5_B => [0xCB#8, 0xA8#8]
  | .res_5_C => [0xCB#8, 0xA9#8] | .res_5_D => [0xCB#8, 0xAA#8] | .res_5_E => [0xCB#8, 0xAB#8]
  | .res_5_H => [0xCB#8, 0xAC#8] | .res_5_L => [0xCB#8, 0xAD#8] | .res_5_atHL => [0xCB#8, 0xAE#8]
  | .res_5_A => [0xCB#8, 0xAF#8] | .res_6_B => [0xCB#8, 0xB0#8] | .res_6_C => [0xCB#8, 0xB1#8]
  | .res_6_D => [0xCB#8, 0xB2#8] | .res_6_E => [0xCB#8, 0xB3#8] | .res_6_H => [0xCB#8, 0xB4#8]
  | .res_6_L => [0xCB#8, 0xB5#8] | .res_6_atHL => [0xCB#8, 0xB6#8] | .res_6_A => [0xCB#8, 0xB7#8]
  | .res_7_B => [0xCB#8, 0xB8#8] | .res_7_C => [0xCB#8, 0xB9#8] | .res_7_D => [0xCB#8, 0xBA#8]
  | .res_7_E => [0xCB#8, 0xBB#8] | .res_7_H => [0xCB#8, 0xBC#8] | .res_7_L => [0xCB#8, 0xBD#8]
  | .res_7_atHL => [0xCB#8, 0xBE#8] | .res_7_A => [0xCB#8, 0xBF#8] | .set_0_B => [0xCB#8, 0xC0#8]
  | .set_0_C => [0xCB#8, 0xC1#8] | .set_0_D => [0xCB#8, 0xC2#8] | .set_0_E => [0xCB#8, 0xC3#8]
  | .set_0_H => [0xCB#8, 0xC4#8] | .set_0_L => [0xCB#8, 0xC5#8] | .set_0_atHL => [0xCB#8, 0xC6#8]
  | .set_0_A => [0xCB#8, 0xC7#8] | .set_1_B => [0xCB#8, 0xC8#8] | .set_1_C => [0xCB#8, 0xC9#8]
  | .set_1_D => [0xCB#8, 0xCA#8] | .set_1_E => [0xCB#8, 0xCB#8] | .set_1_H => [0xCB#8, 0xCC#8]
  | .set_1_L => [0xCB#8, 0xCD#8] | .set_1_atHL => [0xCB#8, 0xCE#8] | .set_1_A => [0xCB#8, 0xCF#8]
  | .set_2_B => [0xCB#8, 0xD0#8] | .set_2_C => [0xCB#8, 0xD1#8] | .set_2_D => [0xCB#8, 0xD2#8]
  | .set_2_E => [0xCB#8, 0xD3#8] | .set_2_H => [0xCB#8, 0xD4#8] | .set_2_L => [0xCB#8, 0xD5#8]
  | .set_2_atHL => [0xCB#8, 0xD6#8] | .set_2_A => [0xCB#8, 0xD7#8] | .set_3_B => [0xCB#8, 0xD8#8]
  | .set_3_C => [0xCB#8, 0xD9#8] | .set_3_D => [0xCB#8, 0xDA#8] | .set_3_E => [0xCB#8, 0xDB#8]
  | .set_3_H => [0xCB#8, 0xDC#8] | .set_3_L => [0xCB#8, 0xDD#8] | .set_3_atHL => [0xCB#8, 0xDE#8]
  | .set_3_A => [0xCB#8, 0xDF#8] | .set_4_B => [0xCB#8, 0xE0#8] | .set_4_C => [0xCB#8, 0xE1#8]
  | .set_4_D => [0xCB#8, 0xE2#8] | .set_4_E => [0xCB#8, 0xE3#8] | .set_4_H => [0xCB#8, 0xE4#8]
  | .set_4_L => [0xCB#8, 0xE5#8] | .set_4_atHL => [0xCB#8, 0xE6#8] | .set_4_A => [0xCB#8, 0xE7#8]
  | .set_5_B => [0xCB#8, 0xE8#8] | .set_5_C => [0xCB#8, 0xE9#8] | .set_5_D => [0xCB#8, 0xEA#8]
  | .set_5_E => [0xCB#8, 0xEB#8] | .set_5_H => [0xCB#8, 0xEC#8] | .set_5_L => [0xCB#8, 0xED#8]
  | .set_5_atHL => [0xCB#8, 0xEE#8] | .set_5_A => [0xCB#8, 0xEF#8] | .set_6_B => [0xCB#8, 0xF0#8]
  | .set_6_C => [0xCB#8, 0xF1#8] | .set_6_D => [0xCB#8, 0xF2#8] | .set_6_E => [0xCB#8, 0xF3#8]
  | .set_6_H => [0xCB#8, 0xF4#8] | .set_6_L => [0xCB#8, 0xF5#8] | .set_6_atHL => [0xCB#8, 0xF6#8]
  | .set_6_A => [0xCB#8, 0xF7#8] | .set_7_B => [0xCB#8, 0xF8#8] | .set_7_C => [0xCB#8, 0xF9#8]
  | .set_7_D => [0xCB#8, 0xFA#8] | .set_7_E => [0xCB#8, 0xFB#8] | .set_7_H => [0xCB#8, 0xFC#8]
  | .set_7_L => [0xCB#8, 0xFD#8] | .set_7_atHL => [0xCB#8, 0xFE#8] | .set_7_A => [0xCB#8, 0xFF#8]

end Sys2Proof
end

