-- ==== Sys2Proof/Machine/Flags.lean ====
section
/-! DEFINITION. The flag register and every computation that gives a result with its flags: 8-bit and 16-bit addition
and subtraction, the logical operations, increments, DAA, rotates and shifts, bit tests. Arithmetic is exact, on natural
numbers, and narrowed at the end (00_scope.md R10). -/

namespace Sys2Proof.Machine

/-- `SetFlags(z,n,h,c)`: `F <- z<<7 | n<<6 | h<<5 | c<<4` (R12, R21). -/
def mkF (z n h c : Bool) : Byte :=
  BitVec.ofBool z ++ BitVec.ofBool n ++ BitVec.ofBool h ++ BitVec.ofBool c ++ 0#4

/-- `Z = F[7]` (R11, R21). -/
def zf (f : Byte) : Bool := f.getLsbD 7

/-- `N = F[6]` (R11, R21). -/
def nf (f : Byte) : Bool := f.getLsbD 6

/-- `Hf = F[5]` (R11, R21). -/
def hf (f : Byte) : Bool := f.getLsbD 5

/-- `Cf = F[4]` (R11, R21). -/
def cf (f : Byte) : Bool := f.getLsbD 4

/-- `Cond(i)` (R340): only Z and C are tested. -/
def condHolds (c : Cond) (f : Byte) : Bool :=
  match c with
  | .nz => !zf f
  | .z => zf f
  | .nc => !cf f
  | .c => cf f

/-- A byte result together with the F it leaves. -/
structure Out8 where
  value : Byte
  flags : Byte
  deriving DecidableEq, Repr

/-- A word result together with the F it leaves. -/
structure Out16 where
  value : Word
  flags : Byte
  deriving DecidableEq, Repr

/-- `A + b + c` (R251 with `c = 0`, R252). -/
def add8 (a b : Byte) (c : Bool) : Out8 :=
  let sum := a.toNat + b.toNat + c.toNat
  let w := BitVec.ofNat 8 sum
  { value := w
    flags := mkF (w == 0#8) false (decide (a.toNat % 16 + b.toNat % 16 + c.toNat > 15)) (decide (sum > 255)) }

/-- `A - b - c` (R253 with `c = 0`, R254). -/
def sub8 (a b : Byte) (c : Bool) : Out8 :=
  let w := BitVec.ofInt 8 ((a.toNat : Int) - (b.toNat : Int) - (c.toNat : Int))
  { value := w
    flags := mkF (w == 0#8) true (decide (a.toNat % 16 < b.toNat % 16 + c.toNat)) (decide (a.toNat < b.toNat + c.toNat)) }

/-- A logical result (R255 to R257): Z from the result, N and C cleared, H as given. -/
def logic8 (w : Byte) (h : Bool) : Out8 := { value := w, flags := mkF (w == 0#8) false h false }

/-- The accumulator operations: A afterwards, and F (R251 to R258). `CP` leaves A and takes the flags of `SUB`. -/
def alu8 (op : AluOp) (a b f : Byte) : Out8 :=
  match op with
  | .add => add8 a b false
  | .adc => add8 a b (cf f)
  | .sub => sub8 a b false
  | .sbc => sub8 a b (cf f)
  | .and => logic8 (a &&& b) true
  | .xor => logic8 (a ^^^ b) false
  | .or => logic8 (a ||| b) false
  | .cp => { value := a, flags := (sub8 a b false).flags }

/-- `INC` of a byte (R260): C unchanged. -/
def inc8 (v f : Byte) : Out8 :=
  let w := v + 1#8
  { value := w, flags := mkF (w == 0#8) false (decide (v.toNat % 16 = 15)) (cf f) }

/-- `DEC` of a byte (R262): C unchanged. -/
def dec8 (v f : Byte) : Out8 :=
  let w := v - 1#8
  { value := w, flags := mkF (w == 0#8) true (decide (v.toNat % 16 = 0)) (cf f) }

/-- `DAA` (R265). -/
def daa8 (a f : Byte) : Out8 :=
  if nf f then
    let adj := (if hf f then 0x06#8 else 0x00#8) ||| (if cf f then 0x60#8 else 0x00#8)
    let w := a - adj
    { value := w, flags := mkF (w == 0#8) true false (cf f) }
  else
    let low := hf f || decide (a.toNat % 16 > 0x09)
    let high := cf f || decide (a.toNat > 0x99)
    let adj := (if low then 0x06#8 else 0x00#8) ||| (if high then 0x60#8 else 0x00#8)
    let w := a + adj
    { value := w, flags := mkF (w == 0#8) false false high }

/-- `CPL` (R266): Z and C unchanged. -/
def cpl8 (a f : Byte) : Out8 := { value := a ^^^ 0xFF#8, flags := mkF (zf f) true true (cf f) }

/-- `SCF` (R267): Z unchanged. -/
def scfFlags (f : Byte) : Byte := mkF (zf f) false false true

/-- `CCF` (R268): Z unchanged, H cleared. -/
def ccfFlags (f : Byte) : Byte := mkF (zf f) false false (!cf f)

/-- `ADD HL,rr` (R290): carries out of bits 11 and 15, Z unchanged. -/
def addHL16 (hl v : Word) (f : Byte) : Out16 :=
  let sum := hl.toNat + v.toNat
  { value := BitVec.ofNat 16 sum
    flags := mkF (zf f) false (decide (hl.toNat % 4096 + v.toNat % 4096 > 0x0FFF)) (decide (sum > 0xFFFF)) }

/-- `SP + e8` with the carries of the low byte and the unsigned displacement (R293, R294). -/
def addSigned16 (sp : Word) (u : Byte) : Out16 :=
  { value := sp + u.signExtend 16
    flags := mkF false false (decide (sp.toNat % 16 + u.toNat % 16 > 0x0F)) (decide (sp.toNat % 256 + u.toNat > 0xFF)) }

/-- The result of a rotate or shift and the bit it moves out (R306 to R313); `c` is the carry in. -/
def shift8 (op : RotOp) (v : Byte) (c : Bool) : Byte × Bool :=
  match op with
  | .rlc => (v.extractLsb' 0 7 ++ v.extractLsb' 7 1, v.getLsbD 7)
  | .rrc => (v.extractLsb' 0 1 ++ v.extractLsb' 1 7, v.getLsbD 0)
  | .rl => (v.extractLsb' 0 7 ++ BitVec.ofBool c, v.getLsbD 7)
  | .rr => (BitVec.ofBool c ++ v.extractLsb' 1 7, v.getLsbD 0)
  | .sla => (v.extractLsb' 0 7 ++ 0#1, v.getLsbD 7)
  | .sra => (v.extractLsb' 7 1 ++ v.extractLsb' 1 7, v.getLsbD 0)
  | .swap => (v.extractLsb' 0 4 ++ v.extractLsb' 4 4, false)
  | .srl => (0#1 ++ v.extractLsb' 1 7, v.getLsbD 0)

/-- A CB-space rotate or shift (R306 to R313): Z from the result. -/
def rot8 (op : RotOp) (v f : Byte) : Out8 :=
  let r := shift8 op v (cf f)
  { value := r.1, flags := mkF (r.1 == 0#8) false false r.2 }

/-- An accumulator rotate (R300 to R303): Z always cleared. -/
def rotA8 (op : RotOp) (v f : Byte) : Out8 :=
  let r := shift8 op v (cf f)
  { value := r.1, flags := mkF false false false r.2 }

/-- The flags of `BIT b,r` (R315): C unchanged. -/
def bitFlags (n : Fin 8) (v f : Byte) : Byte := mkF (!v.getLsbD n.val) false true (cf f)

/-- `RES b,r` (R316). -/
def resBit (n : Fin 8) (v : Byte) : Byte := v &&& ~~~(1#8 <<< n.val)

/-- `SET b,r` (R317). -/
def setBit (n : Fin 8) (v : Byte) : Byte := v ||| (1#8 <<< n.val)

end Sys2Proof.Machine
end

