-- ==== Sys2Proof/Config.lean ====
section
/-! DEFINITION. The parameters the spec leaves open (00_scope.md R9): a machine takes them as arguments, so they are
data that the state carries and that no step changes. The values the spec fixes are in Machine/Params.lean. -/

namespace Sys2Proof

/-- INIT_MEMORY (R9, R482): what the internal memories and the colour palettes hold after power-on. -/
structure InitMemory where
  vram   : Memory
  wram   : Memory
  oam    : Memory
  hram   : Memory
  io     : Memory
  bgPal  : Memory
  objPal : Memory
  deriving DecidableEq, Repr

/-- The open parameters of R9. -/
structure Config where
  /-- DIV_PERIOD_CYCLES -/
  divPeriod         : Nat
  /-- INT_DISPATCH_CYCLES -/
  intDispatchCycles : Nat
  /-- INIT_MEMORY -/
  initMemory        : InitMemory
  deriving DecidableEq, Repr

namespace Config

/-- INIT_MEMORY's default: every byte 0x00 (R9, R36, R43). -/
def zeroMemory : InitMemory :=
  { vram := [], wram := [], oam := [], hram := [], io := [], bgPal := [], objPal := [] }

/-- The defaults of R9: 16384, 20, all zero. -/
def default : Config :=
  { divPeriod := 16384, intDispatchCycles := 20, initMemory := zeroMemory }

end Config

end Sys2Proof
end

