-- ==== Sys2Proof/Machine/State.lean ====
section
/-! DEFINITION. Everything 10_state.md gives the machine, as plain data, with the reset values of 70_reset_and_hazards.md
R481. Every array of bytes is a `Memory` (Word.lean): a sorted list of the cells that are not `0x00`. -/

namespace Sys2Proof.Memory

/-- What an unlisted cell reads as: the reset contents of R36, R43 and R48 (log entries 1 and 2). -/
def unlisted : Byte := 0x00#8

/-- The canonical form: addresses strictly rising, and no cell that holds what an unlisted one reads as. -/
abbrev wf (m : Memory) : Prop :=
  m.Pairwise (fun p q => p.1 < q.1) ∧ ∀ c ∈ m, c.2 ≠ unlisted

end Sys2Proof.Memory

namespace Sys2Proof.Machine

/-- The record of an illegal instruction (R28). -/
structure FaultRecord where
  opcode  : Byte
  address : Word
  deriving DecidableEq, Repr

/-- Registers and hidden state of the CPU (R20 to R28). -/
structure Cpu where
  a : Byte
  f : Byte
  b : Byte
  c : Byte
  d : Byte
  e : Byte
  h : Byte
  l : Byte
  sp : Word
  pc : Word
  ime        : Bool
  imePending : Bool
  halted     : Bool
  faulted    : Option FaultRecord
  deriving DecidableEq, Repr

/-- `IF` and `IE` (R30, R31). -/
structure Irq where
  flags  : BitVec 5
  enable : Byte
  deriving DecidableEq, Repr

/-- The timer registers and their sub-counters (R32, R33). -/
structure Timer where
  div     : Byte
  divSub  : Nat
  tima    : Byte
  tma     : Byte
  tac     : BitVec 3
  timaSub : Nat
  deriving DecidableEq, Repr

/-- The eight buttons, `true` while pressed (R34). -/
structure Buttons where
  right  : Bool
  left   : Bool
  up     : Bool
  down   : Bool
  a      : Bool
  b      : Bool
  select : Bool
  start  : Bool
  deriving DecidableEq, Repr

/-- P1's select bits and the buttons (R34). -/
structure Joypad where
  select  : BitVec 2
  buttons : Buttons
  deriving DecidableEq, Repr

/-- The serial registers (R35). -/
structure Serial where
  sb : Byte
  sc : Byte
  deriving DecidableEq, Repr

/-- The internal memories of R36 (bank `b` of VRAM starts at cell `8192 * b`, of WRAM at `4096 * b`) and VBK, SVBK (R37). -/
structure Mem where
  vram : Memory
  wram : Memory
  oam  : Memory
  hram : Memory
  io   : Memory
  vbk  : BitVec 1
  svbk : BitVec 3
  deriving DecidableEq, Repr

/-- A pixel of a frame (62_ppu.md R428): a DMG shade or a CGB colour. -/
inductive Pixel where
  | shade (s : BitVec 2)
  | rgb (r g b : Byte)
  deriving DecidableEq, Repr

/-- Priority tags (62_ppu.md R429, R448). -/
inductive Tag where
  | clear | background | window | spriteBehind | spriteAbove
  deriving DecidableEq, Repr

/-- A frame: 144 rows of 160 pixels, row 0 at the top (62_ppu.md R470). -/
abbrev Frame := List (List Pixel)

/-- A CGB palette memory with its index register (R43). -/
structure PalettePort where
  cells   : Memory
  index   : BitVec 6
  autoInc : Bool
  deriving DecidableEq, Repr

/-- The PPU (R38 to R44, R46). -/
structure Ppu where
  ly        : Byte
  acc       : Nat
  lyc       : Byte
  lcdc      : Byte
  statSel   : BitVec 4
  statCoinc : Bool
  scy : Byte
  scx : Byte
  wy  : Byte
  wx  : Byte
  bgp  : Byte
  obp0 : Byte
  obp1 : Byte
  bgPal  : PalettePort
  objPal : PalettePort
  dma       : Byte
  raster    : Frame
  published : Frame
  tag       : List Tag
  bgIdx     : List (BitVec 2)
  deriving DecidableEq, Repr

/-- The HDMA registers (R45). -/
structure Hdma where
  src    : Word
  dst    : Word
  len    : BitVec 7
  active : Bool
  deriving DecidableEq, Repr

/-- The five bank controllers (R9, 21_cartridge_mbc.md R122). -/
inductive MbcKind where
  | none | mbc1 | mbc2 | mbc3 | mbc5
  deriving DecidableEq, Repr

/-- The real-time clock registers `rtc[0..4]` (21_cartridge_mbc.md R150). -/
structure Rtc where
  seconds : Byte
  minutes : Byte
  hours   : Byte
  dayLow  : Byte
  dayHigh : Byte
  deriving DecidableEq, Repr

/-- The bank controller's registers and the external RAM (R48). `bankLo` has room for the widest variant; a narrower
one stores fewer bits (log entry 10). -/
structure Mbc where
  ramEnable : Bool
  bankLo    : Byte
  bankHi    : BitVec 2
  mode      : Bool
  ramSel    : BitVec 4
  rtc       : Rtc
  eram      : Memory
  deriving DecidableEq, Repr

/-- The cartridge: its image and the configuration derived from the header at load (R47, 21_cartridge_mbc.md R121). -/
structure Cartridge where
  rom        : Memory
  cgbMode    : Bool
  kind       : MbcKind
  hasRam     : Bool
  hasBattery : Bool
  hasRtc     : Bool
  romBanks   : Nat
  ramBanks   : Nat
  deriving DecidableEq, Repr

/-- The whole machine. -/
structure State where
  cpu    : Cpu
  irq    : Irq
  timer  : Timer
  joypad : Joypad
  serial : Serial
  mem    : Mem
  ppu    : Ppu
  hdma   : Hdma
  mbc    : Mbc
  cart   : Cartridge
  config : Config
  /-- Cycles owed to the timer and the PPU (R29). -/
  carryCycles : Nat
  /-- The model's own field (log entry 5): the count of the instruction while a step runs, and after it what
  `step()` returned (60_exceptions.md R370). -/
  cycles      : Nat
  deriving DecidableEq, Repr

/-- Why a step can stop. -/
inductive Fault where
  /-- Raised by `step` alone, on a machine in the Faulted condition (60_exceptions.md R372: "From a Faulted state there is
  no step"), with the record of the illegal instruction that put it there. Safe: the spec gives no step. -/
  | illegalInstruction (opcode : Byte) (address : Word)
  deriving DecidableEq, Repr

/-- Why an instruction can be refused. -/
inductive Refusal where
  /-- An arm of `exec` that has no meaning yet; no arm is left that says so. Safe: the machine stops. -/
  | notModelled (mnemonic : String)
  deriving DecidableEq, Repr

/-- What executing an instruction or a step answers. -/
abbrev Result := Host.Outcome State Fault Refusal

/-- The blank pixel of R428. -/
def blankPixel (cgb : Bool) : Pixel := if cgb then .rgb 0xFF#8 0xFF#8 0xFF#8 else .shade 0#2

/-- A frame of blank pixels. -/
def blankFrame (cgb : Bool) : Frame := List.replicate 144 (List.replicate 160 (blankPixel cgb))

namespace State

/-- `reset()` on a cartridge, with the external RAM it keeps (R480, R481): every other field at the value of its
"Reset" line in 10_state.md. -/
def powerOn (config : Config) (cart : Cartridge) (eram : Memory) : State where
  cpu :=
    { a := if cart.cgbMode then 0x11#8 else 0x01#8, f := 0xB0#8
      b := 0x00#8, c := 0x13#8, d := 0x00#8, e := 0xD8#8, h := 0x01#8, l := 0x4D#8
      sp := 0xFFFE#16, pc := 0x0100#16
      ime := false, imePending := false, halted := false, faulted := none }
  irq := { flags := 0#5, enable := 0x00#8 }
  timer := { div := 0x00#8, divSub := 0, tima := 0x00#8, tma := 0x00#8, tac := 0#3, timaSub := 0 }
  joypad :=
    { select := 0#2
      buttons :=
        { right := false, left := false, up := false, down := false
          a := false, b := false, select := false, start := false } }
  serial := { sb := 0x00#8, sc := 0x00#8 }
  mem :=
    { vram := config.initMemory.vram, wram := config.initMemory.wram, oam := config.initMemory.oam
      hram := config.initMemory.hram, io := config.initMemory.io, vbk := 0#1, svbk := 0#3 }
  ppu :=
    { ly := 0x00#8, acc := 0, lyc := 0x00#8, lcdc := 0x91#8, statSel := 0#4, statCoinc := true
      scy := 0x00#8, scx := 0x00#8, wy := 0x00#8, wx := 0x00#8
      bgp := 0xFC#8, obp0 := 0xFF#8, obp1 := 0xFF#8
      bgPal := { cells := config.initMemory.bgPal, index := 0#6, autoInc := false }
      objPal := { cells := config.initMemory.objPal, index := 0#6, autoInc := false }
      dma := 0x00#8
      raster := blankFrame cart.cgbMode, published := blankFrame cart.cgbMode
      tag := List.replicate 160 Tag.clear, bgIdx := List.replicate 160 0#2 }
  hdma := { src := 0x0000#16, dst := 0x8000#16, len := 0x7F#7, active := false }
  mbc :=
    { ramEnable := false
      bankLo := match cart.kind with
        | .mbc5 => 1#8
        | .none | .mbc1 | .mbc2 | .mbc3 => 0#8
      bankHi := 0#2, mode := false, ramSel := 0#4
      rtc := { seconds := 0#8, minutes := 0#8, hours := 0#8, dayLow := 0#8, dayHigh := 0#8 }
      eram := eram }
  cart := cart
  config := config
  carryCycles := 0
  cycles := 0

/-- The cartridge of `State.reset`: 32768 zero bytes, which by R121 to R124 is a DMG cartridge without controller, of two
ROM banks and no RAM (log entry 2: the spec gives no cartridge). -/
def blankCartridge : Cartridge :=
  { rom := [], cgbMode := false, kind := .none, hasRam := false, hasBattery := false, hasRtc := false
    romBanks := 2, ramBanks := 0 }

/-- The machine right after reset (R480, R481), with the default parameters of R9 and no program loaded. -/
def reset : State := powerOn Config.default blankCartridge []

end State

end Sys2Proof.Machine
end

