-- ==== Sys2Proof/Machine/Params.lean ====
section
/-! DEFINITION. The parameters the spec fixes (00_scope.md R9) and the fixed addresses (20_memory.md R109). -/

namespace Sys2Proof.Machine

/-- `TIMA_PERIOD_CYCLES[TAC[1:0]]` (R9, R33). -/
def timaPeriod (select : BitVec 2) : Nat :=
  match select.toNat with
  | 0 => 1024
  | 1 => 16
  | 2 => 64
  | _ => 256

/-- `LINE_CYCLES` (R9). -/
def lineCycles : Nat := 456

/-- `LINES_PER_FRAME` (R9). -/
def linesPerFrame : Nat := 154

/-- `VISIBLE_LINES` (R9). -/
def visibleLines : Nat := 144

/-- `SCREEN_WIDTH` (R9). -/
def screenWidth : Nat := 160

/-- `HDMA_CHUNK_BYTES` (R9). -/
def hdmaChunkBytes : Nat := 16

/-- `HDMA_CHUNK_CYCLES` (R9). -/
def hdmaChunkCycles : Nat := 8

/-- What a halted step reports (R352). -/
def haltedCycles : Nat := 4

/-- The size of a ROM bank (R9). -/
def romBankBytes : Nat := 16384

/-- The size of an external RAM bank (R9). -/
def ramBankBytes : Nat := 8192

/-- The handler address of interrupt source `k` (R380). -/
def interruptVector (k : Fin 5) : Word := 0x0040#16 + BitVec.ofNat 16 (8 * k.val)

/-- What absent and unusable things read as (R72, R126). -/
def openBus : Byte := 0xFF#8

end Sys2Proof.Machine
end

