-- ==== Sys2Proof/Machine/Ops.lean ====
section
/-! DEFINITION. The named operations over memory and registers: the cells of a `Memory`; the bank controllers; where an
address leads (20_memory.md R61, R62); reading and writing a byte there with the device behind it, DMA included; the
stack; taking an interrupt and returning from it; entering the Faulted condition. -/

namespace Sys2Proof.Memory

/-- The byte a cell holds. -/
def read : Memory → Nat → Byte
  | [], _ => unlisted
  | (k, v) :: rest, i => if k = i then v else read rest i

/-- Stores a byte and keeps the canonical form. -/
def write : Memory → Nat → Byte → Memory
  | [], i, v => if v = unlisted then [] else [(i, v)]
  | (k, w) :: rest, i, v =>
    if i < k then
      if v = unlisted then (k, w) :: rest else (i, v) :: (k, w) :: rest
    else if i = k then
      if v = unlisted then rest else (i, v) :: rest
    else (k, w) :: write rest i v

/-- The memory that holds a list of bytes from cell `i` on. -/
def ofBytes : Nat → List Byte → Memory
  | _, [] => []
  | i, b :: rest => if b = unlisted then ofBytes (i + 1) rest else (i, b) :: ofBytes (i + 1) rest

/-- The `n` bytes from cell `i` on. -/
def toBytes (m : Memory) : Nat → Nat → List Byte
  | _, 0 => []
  | i, n + 1 => m.read i :: toBytes m (i + 1) n

end Sys2Proof.Memory

namespace Sys2Proof.Machine

/-! ### Registers -/

namespace Cpu

/-- `BC = B ++ C` (R22). -/
def bc (c : Cpu) : Word := Word.ofBytes c.b c.c

/-- `DE = D ++ E` (R22). -/
def de (c : Cpu) : Word := Word.ofBytes c.d c.e

/-- `HL = H ++ L` (R22). -/
def hl (c : Cpu) : Word := Word.ofBytes c.h c.l

/-- `AF = A ++ F` (R22). -/
def af (c : Cpu) : Word := Word.ofBytes c.a c.f

/-- Writing BC writes B and C (R22). -/
def setBC (c : Cpu) (v : Word) : Cpu := { c with b := v.hi, c := v.lo }

/-- Writing DE writes D and E (R22). -/
def setDE (c : Cpu) (v : Word) : Cpu := { c with d := v.hi, e := v.lo }

/-- Writing HL writes H and L (R11, R22). -/
def setHL (c : Cpu) (v : Word) : Cpu := { c with h := v.hi, l := v.lo }

/-- Every write to F stores `v & 0xF0` (R21). -/
def setF (c : Cpu) (v : Byte) : Cpu := { c with f := v &&& 0xF0#8 }

/-- Writing AF, as `POP AF` does (R235). -/
def setAF (c : Cpu) (v : Word) : Cpu := { c with a := v.hi, f := v.lo &&& 0xF0#8 }

end Cpu

namespace State

/-- The state with its CPU changed by `g`. -/
def onCpu (s : State) (g : Cpu → Cpu) : State := { s with cpu := g s.cpu }

/-- An instruction reports its cycle count (R12 `cycles <- n`). -/
def report (s : State) (n : Nat) : State := { s with cycles := n }

/-- Sets one trigger bit (R380). -/
def raise (s : State) (k : Fin 5) : State :=
  { s with irq := { s.irq with flags := s.irq.flags ||| (1#5 <<< k.val) } }

end State

/-! ### Bank controllers (21_cartridge_mbc.md) -/

/-- `ram_enable <- ((v & 0x0F) == 0x0A)` (R129). -/
def isRamEnable (v : Byte) : Bool := v &&& 0x0F#8 == 0x0A#8

/-- `writeControl(addr, v)` for `addr` in 0000-7FFF (R65, R129, R134, R140, R145). -/
def writeControl (kind : MbcKind) (m : Mbc) (addr : Word) (v : Byte) : Mbc :=
  let a := addr.toNat
  match kind with
  | .none => m
  | .mbc1 =>
    if a < 0x2000 then { m with ramEnable := isRamEnable v }
    else if a < 0x4000 then { m with bankLo := v &&& 0x1F#8 }
    else if a < 0x6000 then { m with bankHi := v.extractLsb' 0 2 }
    else { m with mode := v.getLsbD 0 }
  | .mbc2 =>
    if a < 0x4000 then
      if addr.getLsbD 8 then { m with bankLo := v &&& 0x0F#8 } else { m with ramEnable := isRamEnable v }
    else m
  | .mbc3 =>
    if a < 0x2000 then { m with ramEnable := isRamEnable v }
    else if a < 0x4000 then { m with bankLo := v &&& 0x7F#8 }
    else if a < 0x6000 then { m with ramSel := v.extractLsb' 0 4 }
    else m
  | .mbc5 =>
    if a < 0x2000 then { m with ramEnable := isRamEnable v }
    else if a < 0x3000 then { m with bankLo := v }
    else if a < 0x4000 then { m with bankHi := v.extractLsb' 0 2 &&& 1#2 }
    else if a < 0x6000 then { m with ramSel := v.extractLsb' 0 4 }
    else m

/-- The redirect of a zero low bank number to 1 (R130, R135, R141). -/
def redirectZero (lo : Byte) : Nat := if lo = 0#8 then 1 else lo.toNat

/-- `eff_rom_bank` (R128, R130, R135, R141, R146, R155). -/
def effRomBank (c : Cartridge) (m : Mbc) : Nat :=
  match c.kind with
  | .none => 1
  | .mbc1 => ((if m.mode then 0 else m.bankHi.toNat) <<< 5 ||| redirectZero m.bankLo) % c.romBanks
  | .mbc2 => redirectZero m.bankLo % c.romBanks
  | .mbc3 => redirectZero m.bankLo % c.romBanks
  | .mbc5 => (m.bankHi.toNat <<< 8 ||| m.bankLo.toNat) % c.romBanks

/-- The five clock registers, by the `ram_sel` value that selects each (R150). -/
inductive RtcReg where
  | seconds | minutes | hours | dayLow | dayHigh
  deriving DecidableEq, Repr

/-- `rtc[ram_sel - 8]` for `ram_sel` in 0x8..0xC (R142). -/
def rtcSelected (ramSel : BitVec 4) : Option RtcReg :=
  match ramSel.toNat with
  | 0x8 => some .seconds
  | 0x9 => some .minutes
  | 0xA => some .hours
  | 0xB => some .dayLow
  | 0xC => some .dayHigh
  | _ => none

/-- Reads a clock register (R150). -/
def Rtc.get (t : Rtc) : RtcReg → Byte
  | .seconds => t.seconds
  | .minutes => t.minutes
  | .hours => t.hours
  | .dayLow => t.dayLow
  | .dayHigh => t.dayHigh

/-- Writes a clock register (R142: all 8 bits). -/
def Rtc.set (t : Rtc) (r : RtcReg) (v : Byte) : Rtc :=
  match r with
  | .seconds => { t with seconds := v }
  | .minutes => { t with minutes := v }
  | .hours => { t with hours := v }
  | .dayLow => { t with dayLow := v }
  | .dayHigh => { t with dayHigh := v }

/-! ### Where an address leads (20_memory.md) -/

/-- The I/O registers of R80; `storage` is an address without a row of its own (R93). -/
inductive IoReg where
  | p1 | sb | sc | div | tima | tma | tac | irqFlags
  | lcdc | stat | scy | scx | ly | lyc | dma | bgp | obp0 | obp1 | wy | wx
  | vbk | hdma1 | hdma2 | hdma3 | hdma4 | hdma5 | bcps | bcpd | ocps | ocpd | svbk
  | storage (offset : Nat)
  deriving DecidableEq, Repr

/-- The map of R80, by offset from FF00. -/
def ioReg (offset : Nat) : IoReg :=
  match offset with
  | 0x00 => .p1
  | 0x01 => .sb
  | 0x02 => .sc
  | 0x04 => .div
  | 0x05 => .tima
  | 0x06 => .tma
  | 0x07 => .tac
  | 0x0F => .irqFlags
  | 0x40 => .lcdc
  | 0x41 => .stat
  | 0x42 => .scy
  | 0x43 => .scx
  | 0x44 => .ly
  | 0x45 => .lyc
  | 0x46 => .dma
  | 0x47 => .bgp
  | 0x48 => .obp0
  | 0x49 => .obp1
  | 0x4A => .wy
  | 0x4B => .wx
  | 0x4F => .vbk
  | 0x51 => .hdma1
  | 0x52 => .hdma2
  | 0x53 => .hdma3
  | 0x54 => .hdma4
  | 0x55 => .hdma5
  | 0x68 => .bcps
  | 0x69 => .bcpd
  | 0x6A => .ocps
  | 0x6B => .ocpd
  | 0x70 => .svbk
  | k => .storage k

/-- What stands behind an address once the banks are resolved: a cell of one of the arrays, a register, or nothing. -/
inductive Place where
  | rom (i : Nat)
  | vram (i : Nat)
  | eram (i : Nat)
  | eramNibble (i : Nat)
  | rtc (r : RtcReg)
  | wram (i : Nat)
  | oam (i : Nat)
  | hram (i : Nat)
  | io (r : IoReg)
  | ie
  /-- nothing: reads 0xFF and discards writes (R72, R126) -/
  | void
  deriving DecidableEq, Repr

/-- The cell of external RAM behind offset `off` of A000-BFFF (R126, R131, R136, R142, R147). -/
def eramPlace (c : Cartridge) (m : Mbc) (off : Nat) : Place :=
  if m.ramEnable = false then .void
  else
    match c.kind with
    | .none => .void
    | .mbc1 =>
      if c.ramBanks = 0 then .void
      else .eram (ramBankBytes * ((if m.mode then m.bankHi.toNat else 0) % c.ramBanks) + off)
    | .mbc2 => .eramNibble (off % 512)
    | .mbc3 =>
      if m.ramSel.toNat < 4 then
        if c.ramBanks = 0 then .void else .eram (ramBankBytes * (m.ramSel.toNat % c.ramBanks) + off)
      else
        match rtcSelected m.ramSel with
        | some r => if c.hasRtc then .rtc r else .void
        | none => .void
    | .mbc5 =>
      if c.ramBanks = 0 then .void else .eram (ramBankBytes * (m.ramSel.toNat % c.ramBanks) + off)

namespace State

/-- `eff_vram_bank` (R66). -/
def vramBank (s : State) : Nat := if s.cart.cgbMode then s.mem.vbk.toNat else 0

/-- `eff_wram_bank` (R37, R69). -/
def wramBank (s : State) : Nat :=
  if s.cart.cgbMode then max 1 s.mem.svbk.toNat else 1

/-- The WRAM cell behind an offset from C000, 0x0000..0x1FFF (R68, R69). -/
def wramPlace (s : State) (off : Nat) : Place :=
  if off < 0x1000 then .wram off else .wram (4096 * s.wramBank + (off - 0x1000))

/-- The routing of R61 and R62. -/
def route (s : State) (addr : Word) : Place :=
  let a := addr.toNat
  if a < 0x4000 then .rom a
  else if a < 0x8000 then .rom (romBankBytes * effRomBank s.cart s.mbc + (a - 0x4000))
  else if a < 0xA000 then .vram (8192 * s.vramBank + (a - 0x8000))
  else if a < 0xC000 then eramPlace s.cart s.mbc (a - 0xA000)
  else if a < 0xE000 then s.wramPlace (a - 0xC000)
  else if a < 0xFE00 then s.wramPlace (a - 0xE000)
  else if a < 0xFEA0 then .oam (a - 0xFE00)
  else if a < 0xFF00 then .void
  else if a < 0xFF80 then .io (ioReg (a - 0xFF00))
  else if a < 0xFFFF then .hram (a - 0xFF80)
  else .ie

end State

/-! ### Reading a byte -/

/-- The low nibble P1 reads (60_exceptions.md R396): a pressed button of a selected group is 0. -/
def Joypad.nibble (j : Joypad) : BitVec 4 :=
  let bit (action direction : Bool) : BitVec 1 :=
    BitVec.ofBool (!((action && !j.select.getLsbD 1) || (direction && !j.select.getLsbD 0)))
  bit j.buttons.start j.buttons.down ++ bit j.buttons.select j.buttons.up
    ++ bit j.buttons.b j.buttons.left ++ bit j.buttons.a j.buttons.right

/-- STAT's mode bits (62_ppu.md R424). -/
def Ppu.mode (p : Ppu) : BitVec 2 :=
  if visibleLines ≤ p.ly.toNat then 1#2
  else if p.acc < 80 then 2#2
  else if p.acc < 252 then 3#2
  else 0#2

/-- What BCPS and OCPS read (R43). -/
def PalettePort.spec (p : PalettePort) : Byte := BitVec.ofBool p.autoInc ++ 1#1 ++ p.index

/-- What BCPD and OCPD read (R43). -/
def PalettePort.data (p : PalettePort) : Byte := p.cells.read p.index.toNat

/-- BCPS and OCPS store the index and its auto-increment (R43, R80). -/
def PalettePort.setSpec (p : PalettePort) (v : Byte) : PalettePort :=
  { p with index := v.extractLsb' 0 6, autoInc := v.getLsbD 7 }

/-- BCPD and OCPD store the byte at the index and then advance it (R43). -/
def PalettePort.setData (p : PalettePort) (v : Byte) : PalettePort :=
  { p with
    cells := p.cells.write p.index.toNat v
    index := if p.autoInc then p.index + 1#6 else p.index }

namespace State

/-- A register that exists in CGB mode only reads 0xFF in DMG mode (R37, R43, R80). -/
def cgbOnly (s : State) (v : Byte) : Byte := if s.cart.cgbMode then v else openBus

/-- What an I/O register reads (R80). -/
def readIo (s : State) : IoReg → Byte
  | .p1 => 3#2 ++ s.joypad.select ++ s.joypad.nibble
  | .sb => s.serial.sb
  | .sc => s.serial.sc
  | .div => s.timer.div
  | .tima => s.timer.tima
  | .tma => s.timer.tma
  | .tac => 0x1F#5 ++ s.timer.tac
  | .irqFlags => 7#3 ++ s.irq.flags
  | .lcdc => s.ppu.lcdc
  | .stat => 1#1 ++ s.ppu.statSel ++ BitVec.ofBool s.ppu.statCoinc ++ s.ppu.mode
  | .scy => s.ppu.scy
  | .scx => s.ppu.scx
  | .ly => s.ppu.ly
  | .lyc => s.ppu.lyc
  | .dma => s.ppu.dma
  | .bgp => s.ppu.bgp
  | .obp0 => s.ppu.obp0
  | .obp1 => s.ppu.obp1
  | .wy => s.ppu.wy
  | .wx => s.ppu.wx
  | .vbk => s.cgbOnly (0x7F#7 ++ s.mem.vbk)
  | .hdma1 | .hdma2 | .hdma3 | .hdma4 => openBus
  | .hdma5 => s.cgbOnly (BitVec.ofBool (!s.hdma.active) ++ s.hdma.len)
  | .bcps => s.cgbOnly s.ppu.bgPal.spec
  | .bcpd => s.cgbOnly s.ppu.bgPal.data
  | .ocps => s.cgbOnly s.ppu.objPal.spec
  | .ocpd => s.cgbOnly s.ppu.objPal.data
  | .svbk => s.cgbOnly (0x1F#5 ++ s.mem.svbk)
  | .storage k => s.mem.io.read k

/-- What a place reads as (R61). -/
def readPlace (s : State) : Place → Byte
  | .rom i => s.cart.rom.read i
  | .vram i => s.mem.vram.read i
  | .eram i => s.mbc.eram.read i
  | .eramNibble i => 0xF0#8 ||| s.mbc.eram.read i
  | .rtc r => s.mbc.rtc.get r
  | .wram i => s.mem.wram.read i
  | .oam i => s.mem.oam.read i
  | .hram i => s.mem.hram.read i
  | .io r => s.readIo r
  | .ie => s.irq.enable
  | .void => openBus

/-- `MemRead(addr, 1)` (R12, R61): total, without side effects (R60, R103). -/
def read (s : State) (addr : Word) : Byte := s.readPlace (s.route addr)

/-! ### DMA (62_ppu.md) -/

/-- Stores a byte of OAM. -/
def setOam (s : State) (i : Nat) (v : Byte) : State :=
  { s with mem := { s.mem with oam := s.mem.oam.write i v } }

/-- Stores a byte of VRAM. -/
def setVram (s : State) (i : Nat) (v : Byte) : State :=
  { s with mem := { s.mem with vram := s.mem.vram.write i v } }

/-- The copy of OAM DMA, bytes 0 to `n - 1` in that order (R460). -/
def oamCopy (src : Word) : Nat → State → State
  | 0, s => s
  | n + 1, s =>
    let t := oamCopy src n s
    t.setOam n (t.read (src + BitVec.ofNat 16 n))

/-- A write to FF46: stores DMA and copies 160 bytes from `v << 8` (R460). -/
def oamDma (s : State) (v : Byte) : State :=
  oamCopy (v ++ 0x00#8) 160 { s with ppu := { s.ppu with dma := v } }

/-- The copy of one HDMA chunk, bytes 0 to `n - 1` in that order (R465). -/
def chunkCopy (src dst : Word) : Nat → State → State
  | 0, s => s
  | n + 1, s =>
    let t := chunkCopy src dst n s
    t.setVram (8192 * t.mem.vbk.toNat + (dst.toNat - 0x8000) + n) (t.read (src + BitVec.ofNat 16 n))

/-- `Chunk()` (R465). -/
def hdmaCopyChunk (s : State) : State :=
  let t := chunkCopy s.hdma.src s.hdma.dst hdmaChunkBytes s
  { t with
    hdma := { t.hdma with
      src := s.hdma.src + 16#16
      dst := 0x8000#16 ||| ((s.hdma.dst + 16#16) &&& 0x1FF0#16) }
    carryCycles := t.carryCycles + hdmaChunkCycles }

/-- `n` chunks one after another. -/
def copyChunks : Nat → State → State
  | 0, s => s
  | n + 1, s => copyChunks n s.hdmaCopyChunk

/-- `GeneralDma(n)` (R464). -/
def generalDma (s : State) (n : BitVec 7) : State :=
  let t := copyChunks (n.toNat + 1) s
  { t with hdma := { t.hdma with len := 0x7F#7, active := false } }

/-- `HdmaChunk()` (R465). -/
def hblankChunk (s : State) : State :=
  let t := s.hdmaCopyChunk
  if t.hdma.len = 0#7 then { t with hdma := { t.hdma with len := 0x7F#7, active := false } }
  else { t with hdma := { t.hdma with len := t.hdma.len - 1#7 } }

/-- A write to FF55 in CGB mode (R463, R466). -/
def hdmaControl (s : State) (v : Byte) : State :=
  if s.hdma.active then
    if v.getLsbD 7 then { s with hdma := { s.hdma with len := v.extractLsb' 0 7 } }
    else { s with hdma := { s.hdma with active := false } }
  else
    if v.getLsbD 7 then { s with hdma := { s.hdma with len := v.extractLsb' 0 7, active := true } }
    else s.generalDma (v.extractLsb' 0 7)

/-! ### Writing a byte -/

/-- A register that exists in CGB mode only ignores writes in DMG mode (R37, R43, R80). -/
def ifCgb (s : State) (t : State) : State := if s.cart.cgbMode then t else s

/-- What a write to an I/O register does (R80). -/
def writeIo (s : State) (r : IoReg) (v : Byte) : State :=
  match r with
  | .p1 => { s with joypad := { s.joypad with select := v.extractLsb' 4 2 } }
  | .sb => { s with serial := { s.serial with sb := v } }
  | .sc => { s with serial := { s.serial with sc := v } }
  | .div => { s with timer := { s.timer with div := 0x00#8, divSub := 0 } }
  | .tima => { s with timer := { s.timer with tima := v } }
  | .tma => { s with timer := { s.timer with tma := v } }
  | .tac => { s with timer := { s.timer with tac := v.extractLsb' 0 3 } }
  | .irqFlags => { s with irq := { s.irq with flags := v.extractLsb' 0 5 } }
  | .lcdc => { s with ppu := { s.ppu with lcdc := v } }
  | .stat => { s with ppu := { s.ppu with statSel := v.extractLsb' 3 4 } }
  | .scy => { s with ppu := { s.ppu with scy := v } }
  | .scx => { s with ppu := { s.ppu with scx := v } }
  | .ly => s
  | .lyc => { s with ppu := { s.ppu with lyc := v } }
  | .dma => s.oamDma v
  | .bgp => { s with ppu := { s.ppu with bgp := v } }
  | .obp0 => { s with ppu := { s.ppu with obp0 := v } }
  | .obp1 => { s with ppu := { s.ppu with obp1 := v } }
  | .wy => { s with ppu := { s.ppu with wy := v } }
  | .wx => { s with ppu := { s.ppu with wx := v } }
  | .vbk => s.ifCgb { s with mem := { s.mem with vbk := v.extractLsb' 0 1 } }
  | .hdma1 => s.ifCgb { s with hdma := { s.hdma with src := v ++ s.hdma.src.lo } }
  | .hdma2 => s.ifCgb { s with hdma := { s.hdma with src := s.hdma.src.hi ++ (v &&& 0xF0#8) } }
  | .hdma3 => s.ifCgb { s with hdma := { s.hdma with dst := 4#3 ++ v.extractLsb' 0 5 ++ s.hdma.dst.lo } }
  | .hdma4 => s.ifCgb { s with hdma := { s.hdma with dst := s.hdma.dst.hi ++ (v &&& 0xF0#8) } }
  | .hdma5 => s.ifCgb (s.hdmaControl v)
  | .bcps => s.ifCgb { s with ppu := { s.ppu with bgPal := s.ppu.bgPal.setSpec v } }
  | .bcpd => s.ifCgb { s with ppu := { s.ppu with bgPal := s.ppu.bgPal.setData v } }
  | .ocps => s.ifCgb { s with ppu := { s.ppu with objPal := s.ppu.objPal.setSpec v } }
  | .ocpd => s.ifCgb { s with ppu := { s.ppu with objPal := s.ppu.objPal.setData v } }
  | .svbk => s.ifCgb { s with mem := { s.mem with svbk := v.extractLsb' 0 3 } }
  | .storage k => { s with mem := { s.mem with io := s.mem.io.write k v } }

/-- What a write to a place does (R62); one to ROM is a control write of the bank controller (R65). -/
def writePlace (s : State) (addr : Word) (v : Byte) : Place → State
  | .rom _ => { s with mbc := writeControl s.cart.kind s.mbc addr v }
  | .vram i => s.setVram i v
  | .eram i => { s with mbc := { s.mbc with eram := s.mbc.eram.write i v } }
  | .eramNibble i => { s with mbc := { s.mbc with eram := s.mbc.eram.write i (v &&& 0x0F#8) } }
  | .rtc r => { s with mbc := { s.mbc with rtc := s.mbc.rtc.set r v } }
  | .wram i => { s with mem := { s.mem with wram := s.mem.wram.write i v } }
  | .oam i => s.setOam i v
  | .hram i => { s with mem := { s.mem with hram := s.mem.hram.write i v } }
  | .io r => s.writeIo r v
  | .ie => { s with irq := { s.irq with enable := v } }
  | .void => s

/-- `MemWrite(addr, 1, v)` (R12, R62): total (R60). -/
def write (s : State) (addr : Word) (v : Byte) : State := s.writePlace addr v (s.route addr)

/-- `MemRead(addr, 2)`: the low byte at `addr`, the high byte at the next address (R12, R100). -/
def read16 (s : State) (addr : Word) : Word := Word.ofBytes (s.read (addr + 1#16)) (s.read addr)

/-- `MemWrite(addr, 2, v)`: the low byte first (R12, R100). -/
def write16 (s : State) (addr : Word) (v : Word) : State :=
  (s.write addr v.lo).write (addr + 1#16) v.hi

/-! ### The stack (R12) -/

/-- `Push16(v)`: the high byte at SP - 1, then the low byte at SP - 2, where SP ends. (No write reads or changes SP, so
the two decrements are written as one.) -/
def push16 (s : State) (v : Word) : State :=
  ((s.write (s.cpu.sp - 1#16) v.hi).write (s.cpu.sp - 2#16) v.lo).onCpu fun c => { c with sp := c.sp - 2#16 }

/-- The value `Pop16()` returns. -/
def popValue (s : State) : Word := s.read16 s.cpu.sp

/-- What `Pop16()` does to SP. -/
def popSp (s : State) : State := s.onCpu fun c => { c with sp := c.sp + 2#16 }

/-! ### Interrupts (60_exceptions.md R380 to R384) -/

/-- `IF & IE & 0x1F` (R381). -/
def pending (s : State) : BitVec 5 := s.irq.flags &&& s.irq.enable.extractLsb' 0 5

end State

/-- The lowest set bit: the source of the highest priority (R381, R383). -/
def lowestSource (m : BitVec 5) : Option (Fin 5) :=
  if m.getLsbD 0 then some 0
  else if m.getLsbD 1 then some 1
  else if m.getLsbD 2 then some 2
  else if m.getLsbD 3 then some 3
  else if m.getLsbD 4 then some 4
  else none

namespace State

/-- `Dispatch(k)`: taking an interrupt (R382). PC is saved on the stack and nothing else is. -/
def takeInterrupt (s : State) (k : Fin 5) : State :=
  let t := s.push16 s.cpu.pc
  { t with
    cpu := { t.cpu with ime := false, imePending := false, pc := interruptVector k, halted := false }
    irq := { t.irq with flags := t.irq.flags &&& ~~~(1#5 <<< k.val) }
    carryCycles := t.carryCycles + t.config.intDispatchCycles }

/-- `InterruptCheck()` (R381). -/
def interruptCheck (s : State) : State :=
  if s.cpu.ime then
    match lowestSource s.pending with
    | some k => s.takeInterrupt k
    | none => s
  else s

/-- The return from a handler, `RETI`: PC from the stack and IME at once; `imePending` is not changed (R339, R384). -/
def returnFromInterrupt (s : State) : State :=
  let pc := s.popValue
  s.popSp.onCpu fun c => { c with pc := pc, ime := true }

/-! ### The Faulted condition (46_system.md R355, 60_exceptions.md R372) -/

/-- `raise IllegalInstruction(opcode, address)`. PC has passed the opcode, so the address is PC - 1. -/
def raiseIllegal (s : State) (opcode : Byte) : State :=
  s.onCpu fun c => { c with faulted := some { opcode := opcode, address := c.pc - 1#16 }, halted := false }

end State

end Sys2Proof.Machine
end

