-- ==== Sys2Proof/Machine/Operands.lean ====
section
/-! DEFINITION. The operand forms: the 8-bit operand `r[i]`, the pairs `rp[p]` and `rp2[p]`, the addresses of the
memory forms, and what each costs (00_scope.md R11, 30_encoding.md R171). -/

namespace Sys2Proof.Machine

namespace State

/-- The value of `r[i]`; `(HL)` is the byte in memory at HL (R11, R305). -/
def get8 (s : State) : R8 → Byte
  | .b => s.cpu.b
  | .c => s.cpu.c
  | .d => s.cpu.d
  | .e => s.cpu.e
  | .h => s.cpu.h
  | .l => s.cpu.l
  | .atHL => s.read s.cpu.hl
  | .a => s.cpu.a

/-- `r[i] <- v`; `(HL)` is one write of memory at HL (R11, R305). -/
def set8 (s : State) (r : R8) (v : Byte) : State :=
  match r with
  | .b => s.onCpu fun c => { c with b := v }
  | .c => s.onCpu fun c => { c with c := v }
  | .d => s.onCpu fun c => { c with d := v }
  | .e => s.onCpu fun c => { c with e := v }
  | .h => s.onCpu fun c => { c with h := v }
  | .l => s.onCpu fun c => { c with l := v }
  | .atHL => s.write s.cpu.hl v
  | .a => s.onCpu fun c => { c with a := v }

/-- Replaces F. -/
def withF (s : State) (f : Byte) : State := s.onCpu fun c => { c with f := f }

/-- Replaces PC (R12 `PC <- target`). -/
def jump (s : State) (target : Word) : State := s.onCpu fun c => { c with pc := target }

/-- The address `0xFF00 + n` (R172, R213). -/
def highPage (n : Byte) : Word := 0xFF#8 ++ n

end State

namespace Cpu

/-- The value of `rp[p]` (R11). -/
def getRp (c : Cpu) : Rp → Word
  | .bc => c.bc
  | .de => c.de
  | .hl => c.hl
  | .sp => c.sp

/-- `rp[p] <- v` (R11). -/
def setRp (c : Cpu) (p : Rp) (v : Word) : Cpu :=
  match p with
  | .bc => c.setBC v
  | .de => c.setDE v
  | .hl => c.setHL v
  | .sp => { c with sp := v }

/-- The value of `rp2[p]` (R11, R233). -/
def getRp2 (c : Cpu) : Rp2 → Word
  | .bc => c.bc
  | .de => c.de
  | .hl => c.hl
  | .af => c.af

/-- `rp2[p] <- v`; AF drops bits 3:0 (R234, R235). -/
def setRp2 (c : Cpu) (p : Rp2) (v : Word) : Cpu :=
  match p with
  | .bc => c.setBC v
  | .de => c.setDE v
  | .hl => c.setHL v
  | .af => c.setAF v

end Cpu

/-- The count of an instruction whose operand is a register or `(HL)` (R500). -/
def costOf (r : R8) (register memory : Nat) : Nat :=
  match r with
  | .atHL => memory
  | .b | .c | .d | .e | .h | .l | .a => register

/-- The instruction is done: the state it leaves and the count it reports. -/
def done (s : State) (cycles : Nat) : Result := .next (s.report cycles)

end Sys2Proof.Machine
end

