-- ==== Sys2Proof/Machine/Alu16.lean ====
section
/-! DEFINITION. The 16-bit arithmetic instructions (43_alu16.md): first the operations they share, then one meaning for
each row of the table. -/

namespace Sys2Proof.Machine

open State

/-- `ADD HL,rp[p]` (R290). -/
def addHL (p : Rp) (s : State) : Result :=
  let out := addHL16 s.cpu.hl (s.cpu.getRp p) s.cpu.f
  done ((s.onCpu fun c => c.setHL out.value).withF out.flags) 8

/-- `rp[p] <- rp[p] + delta`, no flag changed (R291, R292). -/
def addPair (p : Rp) (delta : Word) (s : State) : Result :=
  done (s.onCpu fun c => c.setRp p (c.getRp p + delta)) 8

/-- `ADD SP,e8` (R293). -/
def addSP (e : Byte) (s : State) : Result :=
  let out := addSigned16 s.cpu.sp e
  done ((s.onCpu fun c => c.setRp .sp out.value).withF out.flags) 16

/-- `LD HL,SP+e8` (R294). -/
def ldHLSP (e : Byte) (s : State) : Result :=
  let out := addSigned16 s.cpu.sp e
  done ((s.onCpu fun c => c.setHL out.value).withF out.flags) 12

/-- `INC BC` (R291). -/
def execInc_BC (s : State) : Result := addPair .bc 1#16 s

/-- `ADD HL,BC` (R290). -/
def execAdd_HL_BC (s : State) : Result := addHL .bc s

/-- `DEC BC` (R292). -/
def execDec_BC (s : State) : Result := addPair .bc (-1#16) s

/-- `INC DE` (R291). -/
def execInc_DE (s : State) : Result := addPair .de 1#16 s

/-- `ADD HL,DE` (R290). -/
def execAdd_HL_DE (s : State) : Result := addHL .de s

/-- `DEC DE` (R292). -/
def execDec_DE (s : State) : Result := addPair .de (-1#16) s

/-- `INC HL` (R291). -/
def execInc_HL (s : State) : Result := addPair .hl 1#16 s

/-- `ADD HL,HL` (R290). -/
def execAdd_HL_HL (s : State) : Result := addHL .hl s

/-- `DEC HL` (R292). -/
def execDec_HL (s : State) : Result := addPair .hl (-1#16) s

/-- `INC SP` (R291). -/
def execInc_SP (s : State) : Result := addPair .sp 1#16 s

/-- `ADD HL,SP` (R290). -/
def execAdd_HL_SP (s : State) : Result := addHL .sp s

/-- `DEC SP` (R292). -/
def execDec_SP (s : State) : Result := addPair .sp (-1#16) s

/-- `ADD SP,e8` (R293). -/
def execAdd_SP_e8 (e : Byte) (s : State) : Result := addSP e s

/-- `LD HL,SP+e8` (R294). -/
def execLd_HL_SP_e8 (e : Byte) (s : State) : Result := ldHLSP e s

end Sys2Proof.Machine
end

