-- ==== Sys2Proof/Machine/Alu8.lean ====
section
/-! DEFINITION. The 8-bit arithmetic and logic instructions (42_alu8.md): first the operations they share, then one
meaning for each row of the table. -/

namespace Sys2Proof.Machine

open State

/-- An accumulator operation on the operand value `b` (R250 to R258). -/
def aluA (op : AluOp) (b : Byte) (cycles : Nat) (s : State) : Result :=
  let out := alu8 op s.cpu.a b s.cpu.f
  done (s.onCpu fun c => { c with a := out.value, f := out.flags }) cycles

/-- `alu[y] A,r[z]` (R250). -/
def aluReg (op : AluOp) (r : R8) (s : State) : Result := aluA op (s.get8 r) (costOf r 4 8) s

/-- `alu[y] A,n8` (R250). -/
def aluImm (op : AluOp) (n : Byte) (s : State) : Result := aluA op n 8 s

/-- `INC r[y]` (R260, R261). -/
def incReg (r : R8) (s : State) : Result :=
  let out := inc8 (s.get8 r) s.cpu.f
  done ((s.set8 r out.value).withF out.flags) (costOf r 4 12)

/-- `DEC r[y]` (R262, R263). -/
def decReg (r : R8) (s : State) : Result :=
  let out := dec8 (s.get8 r) s.cpu.f
  done ((s.set8 r out.value).withF out.flags) (costOf r 4 12)

/-- An adjustment of A by the flags (R265, R266). -/
def adjustA (g : Byte → Byte → Out8) (s : State) : Result :=
  let out := g s.cpu.a s.cpu.f
  done (s.onCpu fun c => { c with a := out.value, f := out.flags }) 4

/-- A change of the flags alone (R267, R268). -/
def carryOp (g : Byte → Byte) (s : State) : Result := done (s.withF (g s.cpu.f)) 4

/-- `INC B` (R260). -/
def execInc_B (s : State) : Result := incReg .b s

/-- `DEC B` (R262). -/
def execDec_B (s : State) : Result := decReg .b s

/-- `INC C` (R260). -/
def execInc_C (s : State) : Result := incReg .c s

/-- `DEC C` (R262). -/
def execDec_C (s : State) : Result := decReg .c s

/-- `INC D` (R260). -/
def execInc_D (s : State) : Result := incReg .d s

/-- `DEC D` (R262). -/
def execDec_D (s : State) : Result := decReg .d s

/-- `INC E` (R260). -/
def execInc_E (s : State) : Result := incReg .e s

/-- `DEC E` (R262). -/
def execDec_E (s : State) : Result := decReg .e s

/-- `INC H` (R260). -/
def execInc_H (s : State) : Result := incReg .h s

/-- `DEC H` (R262). -/
def execDec_H (s : State) : Result := decReg .h s

/-- `DAA` (R265). -/
def execDaa (s : State) : Result := adjustA daa8 s

/-- `INC L` (R260). -/
def execInc_L (s : State) : Result := incReg .l s

/-- `DEC L` (R262). -/
def execDec_L (s : State) : Result := decReg .l s

/-- `CPL` (R266). -/
def execCpl (s : State) : Result := adjustA cpl8 s

/-- `INC (HL)` (R261). -/
def execInc_atHL (s : State) : Result := incReg .atHL s

/-- `DEC (HL)` (R263). -/
def execDec_atHL (s : State) : Result := decReg .atHL s

/-- `SCF` (R267). -/
def execScf (s : State) : Result := carryOp scfFlags s

/-- `INC A` (R260). -/
def execInc_A (s : State) : Result := incReg .a s

/-- `DEC A` (R262). -/
def execDec_A (s : State) : Result := decReg .a s

/-- `CCF` (R268). -/
def execCcf (s : State) : Result := carryOp ccfFlags s

/-- `ADD A,B` (R251). -/
def execAdd_A_B (s : State) : Result := aluReg .add .b s

/-- `ADD A,C` (R251). -/
def execAdd_A_C (s : State) : Result := aluReg .add .c s

/-- `ADD A,D` (R251). -/
def execAdd_A_D (s : State) : Result := aluReg .add .d s

/-- `ADD A,E` (R251). -/
def execAdd_A_E (s : State) : Result := aluReg .add .e s

/-- `ADD A,H` (R251). -/
def execAdd_A_H (s : State) : Result := aluReg .add .h s

/-- `ADD A,L` (R251). -/
def execAdd_A_L (s : State) : Result := aluReg .add .l s

/-- `ADD A,(HL)` (R251). -/
def execAdd_A_atHL (s : State) : Result := aluReg .add .atHL s

/-- `ADD A,A` (R251). -/
def execAdd_A_A (s : State) : Result := aluReg .add .a s

/-- `ADC A,B` (R252). -/
def execAdc_A_B (s : State) : Result := aluReg .adc .b s

/-- `ADC A,C` (R252). -/
def execAdc_A_C (s : State) : Result := aluReg .adc .c s

/-- `ADC A,D` (R252). -/
def execAdc_A_D (s : State) : Result := aluReg .adc .d s

/-- `ADC A,E` (R252). -/
def execAdc_A_E (s : State) : Result := aluReg .adc .e s

/-- `ADC A,H` (R252). -/
def execAdc_A_H (s : State) : Result := aluReg .adc .h s

/-- `ADC A,L` (R252). -/
def execAdc_A_L (s : State) : Result := aluReg .adc .l s

/-- `ADC A,(HL)` (R252). -/
def execAdc_A_atHL (s : State) : Result := aluReg .adc .atHL s

/-- `ADC A,A` (R252). -/
def execAdc_A_A (s : State) : Result := aluReg .adc .a s

/-- `SUB A,B` (R253). -/
def execSub_A_B (s : State) : Result := aluReg .sub .b s

/-- `SUB A,C` (R253). -/
def execSub_A_C (s : State) : Result := aluReg .sub .c s

/-- `SUB A,D` (R253). -/
def execSub_A_D (s : State) : Result := aluReg .sub .d s

/-- `SUB A,E` (R253). -/
def execSub_A_E (s : State) : Result := aluReg .sub .e s

/-- `SUB A,H` (R253). -/
def execSub_A_H (s : State) : Result := aluReg .sub .h s

/-- `SUB A,L` (R253). -/
def execSub_A_L (s : State) : Result := aluReg .sub .l s

/-- `SUB A,(HL)` (R253). -/
def execSub_A_atHL (s : State) : Result := aluReg .sub .atHL s

/-- `SUB A,A` (R253). -/
def execSub_A_A (s : State) : Result := aluReg .sub .a s

/-- `SBC A,B` (R254). -/
def execSbc_A_B (s : State) : Result := aluReg .sbc .b s

/-- `SBC A,C` (R254). -/
def execSbc_A_C (s : State) : Result := aluReg .sbc .c s

/-- `SBC A,D` (R254). -/
def execSbc_A_D (s : State) : Result := aluReg .sbc .d s

/-- `SBC A,E` (R254). -/
def execSbc_A_E (s : State) : Result := aluReg .sbc .e s

/-- `SBC A,H` (R254). -/
def execSbc_A_H (s : State) : Result := aluReg .sbc .h s

/-- `SBC A,L` (R254). -/
def execSbc_A_L (s : State) : Result := aluReg .sbc .l s

/-- `SBC A,(HL)` (R254). -/
def execSbc_A_atHL (s : State) : Result := aluReg .sbc .atHL s

/-- `SBC A,A` (R254). -/
def execSbc_A_A (s : State) : Result := aluReg .sbc .a s

/-- `AND A,B` (R255). -/
def execAnd_A_B (s : State) : Result := aluReg .and .b s

/-- `AND A,C` (R255). -/
def execAnd_A_C (s : State) : Result := aluReg .and .c s

/-- `AND A,D` (R255). -/
def execAnd_A_D (s : State) : Result := aluReg .and .d s

/-- `AND A,E` (R255). -/
def execAnd_A_E (s : State) : Result := aluReg .and .e s

/-- `AND A,H` (R255). -/
def execAnd_A_H (s : State) : Result := aluReg .and .h s

/-- `AND A,L` (R255). -/
def execAnd_A_L (s : State) : Result := aluReg .and .l s

/-- `AND A,(HL)` (R255). -/
def execAnd_A_atHL (s : State) : Result := aluReg .and .atHL s

/-- `AND A,A` (R255). -/
def execAnd_A_A (s : State) : Result := aluReg .and .a s

/-- `XOR A,B` (R256). -/
def execXor_A_B (s : State) : Result := aluReg .xor .b s

/-- `XOR A,C` (R256). -/
def execXor_A_C (s : State) : Result := aluReg .xor .c s

/-- `XOR A,D` (R256). -/
def execXor_A_D (s : State) : Result := aluReg .xor .d s

/-- `XOR A,E` (R256). -/
def execXor_A_E (s : State) : Result := aluReg .xor .e s

/-- `XOR A,H` (R256). -/
def execXor_A_H (s : State) : Result := aluReg .xor .h s

/-- `XOR A,L` (R256). -/
def execXor_A_L (s : State) : Result := aluReg .xor .l s

/-- `XOR A,(HL)` (R256). -/
def execXor_A_atHL (s : State) : Result := aluReg .xor .atHL s

/-- `XOR A,A` (R256). -/
def execXor_A_A (s : State) : Result := aluReg .xor .a s

/-- `OR A,B` (R257). -/
def execOr_A_B (s : State) : Result := aluReg .or .b s

/-- `OR A,C` (R257). -/
def execOr_A_C (s : State) : Result := aluReg .or .c s

/-- `OR A,D` (R257). -/
def execOr_A_D (s : State) : Result := aluReg .or .d s

/-- `OR A,E` (R257). -/
def execOr_A_E (s : State) : Result := aluReg .or .e s

/-- `OR A,H` (R257). -/
def execOr_A_H (s : State) : Result := aluReg .or .h s

/-- `OR A,L` (R257). -/
def execOr_A_L (s : State) : Result := aluReg .or .l s

/-- `OR A,(HL)` (R257). -/
def execOr_A_atHL (s : State) : Result := aluReg .or .atHL s

/-- `OR A,A` (R257). -/
def execOr_A_A (s : State) : Result := aluReg .or .a s

/-- `CP A,B` (R258). -/
def execCp_A_B (s : State) : Result := aluReg .cp .b s

/-- `CP A,C` (R258). -/
def execCp_A_C (s : State) : Result := aluReg .cp .c s

/-- `CP A,D` (R258). -/
def execCp_A_D (s : State) : Result := aluReg .cp .d s

/-- `CP A,E` (R258). -/
def execCp_A_E (s : State) : Result := aluReg .cp .e s

/-- `CP A,H` (R258). -/
def execCp_A_H (s : State) : Result := aluReg .cp .h s

/-- `CP A,L` (R258). -/
def execCp_A_L (s : State) : Result := aluReg .cp .l s

/-- `CP A,(HL)` (R258). -/
def execCp_A_atHL (s : State) : Result := aluReg .cp .atHL s

/-- `CP A,A` (R258). -/
def execCp_A_A (s : State) : Result := aluReg .cp .a s

/-- `ADD A,n8` (R251). -/
def execAdd_A_n8 (n : Byte) (s : State) : Result := aluImm .add n s

/-- `ADC A,n8` (R252). -/
def execAdc_A_n8 (n : Byte) (s : State) : Result := aluImm .adc n s

/-- `SUB A,n8` (R253). -/
def execSub_A_n8 (n : Byte) (s : State) : Result := aluImm .sub n s

/-- `SBC A,n8` (R254). -/
def execSbc_A_n8 (n : Byte) (s : State) : Result := aluImm .sbc n s

/-- `AND A,n8` (R255). -/
def execAnd_A_n8 (n : Byte) (s : State) : Result := aluImm .and n s

/-- `XOR A,n8` (R256). -/
def execXor_A_n8 (n : Byte) (s : State) : Result := aluImm .xor n s

/-- `OR A,n8` (R257). -/
def execOr_A_n8 (n : Byte) (s : State) : Result := aluImm .or n s

/-- `CP A,n8` (R258). -/
def execCp_A_n8 (n : Byte) (s : State) : Result := aluImm .cp n s

end Sys2Proof.Machine
end

