-- ==== Sys2Proof/Machine/Control.lean ====
section
/-! DEFINITION. Jumps, calls, returns and restarts (45_control.md): first the operations they share, then one meaning for
each row of the table. -/

namespace Sys2Proof.Machine

namespace State

/-- `PC <- PC + sext_8(u)` (R333); PC is the address after the instruction. -/
def jumpBy (s : State) (u : Byte) : State := s.jump (s.cpu.pc + u.signExtend 16)

/-- `Push16(PC); PC <- target` (R335). -/
def call (s : State) (target : Word) : State := (s.push16 s.cpu.pc).jump target

/-- `PC <- Pop16()` (R337). -/
def ret (s : State) : State := s.popSp.jump s.popValue

end State

/-- `if Cond(y): PC <- a` (R331). -/
def jpIf (k : Cond) (a : Word) (s : State) : Result :=
  if condHolds k s.cpu.f then done (s.jump a) 16 else done s 12

/-- `if Cond(y-4): PC <- PC + sext_8(u)` (R334). -/
def jrIf (k : Cond) (e : Byte) (s : State) : Result :=
  if condHolds k s.cpu.f then done (s.jumpBy e) 12 else done s 8

/-- `if Cond(y): Push16(PC); PC <- a` (R336). -/
def callIf (k : Cond) (a : Word) (s : State) : Result :=
  if condHolds k s.cpu.f then done (s.call a) 24 else done s 12

/-- `if Cond(y): PC <- Pop16()` (R338). -/
def retIf (k : Cond) (s : State) : Result :=
  if condHolds k s.cpu.f then done s.ret 20 else done s 8

/-- The target `8 * y` of `RST` (R172, R345). -/
def rstTarget (y : Fin 8) : Word := BitVec.ofNat 16 (8 * y.val)

/-- `Push16(PC); PC <- 8 * y` (R345). -/
def rst (y : Fin 8) (s : State) : Result := done (s.call (rstTarget y)) 16

/-- `JR e8` (R333). -/
def execJr_e8 (e : Byte) (s : State) : Result := done (s.jumpBy e) 12

/-- `JR NZ,e8` (R334). -/
def execJr_NZ_e8 (e : Byte) (s : State) : Result := jrIf .nz e s

/-- `JR Z,e8` (R334). -/
def execJr_Z_e8 (e : Byte) (s : State) : Result := jrIf .z e s

/-- `JR NC,e8` (R334). -/
def execJr_NC_e8 (e : Byte) (s : State) : Result := jrIf .nc e s

/-- `JR C,e8` (R334). -/
def execJr_C_e8 (e : Byte) (s : State) : Result := jrIf .c e s

/-- `RET NZ` (R338). -/
def execRet_NZ (s : State) : Result := retIf .nz s

/-- `JP NZ,a16` (R331). -/
def execJp_NZ_a16 (a : Word) (s : State) : Result := jpIf .nz a s

/-- `JP a16` (R330). -/
def execJp_a16 (a : Word) (s : State) : Result := done (s.jump a) 16

/-- `CALL NZ,a16` (R336). -/
def execCall_NZ_a16 (a : Word) (s : State) : Result := callIf .nz a s

/-- `RST 00` (R345). -/
def execRst_00 (s : State) : Result := rst 0 s

/-- `RET Z` (R338). -/
def execRet_Z (s : State) : Result := retIf .z s

/-- `RET` (R337). -/
def execRet (s : State) : Result := done s.ret 16

/-- `JP Z,a16` (R331). -/
def execJp_Z_a16 (a : Word) (s : State) : Result := jpIf .z a s

/-- `CALL Z,a16` (R336). -/
def execCall_Z_a16 (a : Word) (s : State) : Result := callIf .z a s

/-- `CALL a16` (R335). -/
def execCall_a16 (a : Word) (s : State) : Result := done (s.call a) 24

/-- `RST 08` (R345). -/
def execRst_08 (s : State) : Result := rst 1 s

/-- `RET NC` (R338). -/
def execRet_NC (s : State) : Result := retIf .nc s

/-- `JP NC,a16` (R331). -/
def execJp_NC_a16 (a : Word) (s : State) : Result := jpIf .nc a s

/-- `CALL NC,a16` (R336). -/
def execCall_NC_a16 (a : Word) (s : State) : Result := callIf .nc a s

/-- `RST 10` (R345). -/
def execRst_10 (s : State) : Result := rst 2 s

/-- `RET C` (R338). -/
def execRet_C (s : State) : Result := retIf .c s

/-- `RETI` (R339). -/
def execReti (s : State) : Result := done s.returnFromInterrupt 16

/-- `JP C,a16` (R331). -/
def execJp_C_a16 (a : Word) (s : State) : Result := jpIf .c a s

/-- `CALL C,a16` (R336). -/
def execCall_C_a16 (a : Word) (s : State) : Result := callIf .c a s

/-- `RST 18` (R345). -/
def execRst_18 (s : State) : Result := rst 3 s

/-- `RST 20` (R345). -/
def execRst_20 (s : State) : Result := rst 4 s

/-- `JP HL` (R332). -/
def execJp_HL (s : State) : Result := done (s.jump s.cpu.hl) 4

/-- `RST 28` (R345). -/
def execRst_28 (s : State) : Result := rst 5 s

/-- `RST 30` (R345). -/
def execRst_30 (s : State) : Result := rst 6 s

/-- `RST 38` (R345). -/
def execRst_38 (s : State) : Result := rst 7 s

end Sys2Proof.Machine
end

