-- ==== Sys2Proof/Machine/Load16.lean ====
section
/-! DEFINITION. The 16-bit loads and the stack instructions (41_load16.md): first the operations they share, then one
meaning for each row of the table. -/

namespace Sys2Proof.Machine

open State

/-- `rp[p] <- n16` (R230). -/
def ldPair (p : Rp) (n : Word) (s : State) : Result := done (s.onCpu fun c => c.setRp p n) 12

/-- `MemWrite(a, 1, SP[7:0]); MemWrite(a + 1, 1, SP[15:8])` (R231). -/
def storeSP (a : Word) (s : State) : Result := done (s.write16 a s.cpu.sp) 20

/-- `SP <- HL` (R232). -/
def ldSPHL (s : State) : Result := done (s.onCpu fun c => c.setRp .sp c.hl) 8

/-- `Push16(rp2[p])` (R233). -/
def pushPair (p : Rp2) (s : State) : Result := done (s.push16 (s.cpu.getRp2 p)) 16

/-- `rp2[p] <- Pop16()` (R234, R235). -/
def popPair (p : Rp2) (s : State) : Result := done (s.popSp.onCpu fun c => c.setRp2 p s.popValue) 12

/-- `LD BC,n16` (R230). -/
def execLd_BC_n16 (n : Word) (s : State) : Result := ldPair .bc n s

/-- `LD (a16),SP` (R231). -/
def execLd_atA16_SP (a : Word) (s : State) : Result := storeSP a s

/-- `LD DE,n16` (R230). -/
def execLd_DE_n16 (n : Word) (s : State) : Result := ldPair .de n s

/-- `LD HL,n16` (R230). -/
def execLd_HL_n16 (n : Word) (s : State) : Result := ldPair .hl n s

/-- `LD SP,n16` (R230). -/
def execLd_SP_n16 (n : Word) (s : State) : Result := ldPair .sp n s

/-- `POP BC` (R234). -/
def execPop_BC (s : State) : Result := popPair .bc s

/-- `PUSH BC` (R233). -/
def execPush_BC (s : State) : Result := pushPair .bc s

/-- `POP DE` (R234). -/
def execPop_DE (s : State) : Result := popPair .de s

/-- `PUSH DE` (R233). -/
def execPush_DE (s : State) : Result := pushPair .de s

/-- `POP HL` (R234). -/
def execPop_HL (s : State) : Result := popPair .hl s

/-- `PUSH HL` (R233). -/
def execPush_HL (s : State) : Result := pushPair .hl s

/-- `POP AF` (R235). -/
def execPop_AF (s : State) : Result := popPair .af s

/-- `PUSH AF` (R233). -/
def execPush_AF (s : State) : Result := pushPair .af s

/-- `LD SP,HL` (R232). -/
def execLd_SP_HL (s : State) : Result := ldSPHL s

end Sys2Proof.Machine
end

