-- ==== Sys2Proof/Machine/Load8.lean ====
section
/-! DEFINITION. The 8-bit loads (40_load8.md): first the operations they share, then one meaning for each row of the
table. PC has already passed the instruction (00_scope.md R12: the bytes are fetched first). -/

namespace Sys2Proof.Machine

open State

/-- `r[y] <- r[z]` (R200, R202, R203). -/
def ldReg (dst src : R8) (s : State) : Result :=
  done (s.set8 dst (s.get8 src)) (costOf dst (costOf src 4 8) 8)

/-- `r[y] <- n8` (R201, R204). -/
def ldImm (dst : R8) (n : Byte) (s : State) : Result := done (s.set8 dst n) (costOf dst 8 12)

/-- `A <- MemRead(addr, 1)` (R205, R206, R209, R211, R213). -/
def loadA (addr : Word) (cycles : Nat) (s : State) : Result := done (s.set8 .a (s.read addr)) cycles

/-- `MemWrite(addr, 1, A)` (R207, R208, R210, R212, R214). -/
def storeA (addr : Word) (cycles : Nat) (s : State) : Result := done (s.write addr s.cpu.a) cycles

/-- `A <- MemRead(HL, 1)`, then `HL <- HL + delta` (R216, R218). -/
def loadAStep (delta : Word) (s : State) : Result :=
  done ((s.set8 .a (s.read s.cpu.hl)).onCpu fun c => c.setHL (s.cpu.hl + delta)) 8

/-- `MemWrite(HL, 1, A)`, then `HL <- HL + delta` (R215, R217). -/
def storeAStep (delta : Word) (s : State) : Result :=
  done ((s.write s.cpu.hl s.cpu.a).onCpu fun c => c.setHL (s.cpu.hl + delta)) 8

/-- `LD (BC),A` (R207). -/
def execLd_atBC_A (s : State) : Result := storeA s.cpu.bc 8 s

/-- `LD B,n8` (R201). -/
def execLd_B_n8 (n : Byte) (s : State) : Result := ldImm .b n s

/-- `LD A,(BC)` (R205). -/
def execLd_A_atBC (s : State) : Result := loadA s.cpu.bc 8 s

/-- `LD C,n8` (R201). -/
def execLd_C_n8 (n : Byte) (s : State) : Result := ldImm .c n s

/-- `LD (DE),A` (R208). -/
def execLd_atDE_A (s : State) : Result := storeA s.cpu.de 8 s

/-- `LD D,n8` (R201). -/
def execLd_D_n8 (n : Byte) (s : State) : Result := ldImm .d n s

/-- `LD A,(DE)` (R206). -/
def execLd_A_atDE (s : State) : Result := loadA s.cpu.de 8 s

/-- `LD E,n8` (R201). -/
def execLd_E_n8 (n : Byte) (s : State) : Result := ldImm .e n s

/-- `LD (HL+),A` (R215). -/
def execLd_atHLI_A (s : State) : Result := storeAStep 1#16 s

/-- `LD H,n8` (R201). -/
def execLd_H_n8 (n : Byte) (s : State) : Result := ldImm .h n s

/-- `LD A,(HL+)` (R216). -/
def execLd_A_atHLI (s : State) : Result := loadAStep 1#16 s

/-- `LD L,n8` (R201). -/
def execLd_L_n8 (n : Byte) (s : State) : Result := ldImm .l n s

/-- `LD (HL-),A` (R217). -/
def execLd_atHLD_A (s : State) : Result := storeAStep (-1#16) s

/-- `LD (HL),n8` (R204). -/
def execLd_atHL_n8 (n : Byte) (s : State) : Result := ldImm .atHL n s

/-- `LD A,(HL-)` (R218). -/
def execLd_A_atHLD (s : State) : Result := loadAStep (-1#16) s

/-- `LD A,n8` (R201). -/
def execLd_A_n8 (n : Byte) (s : State) : Result := ldImm .a n s

/-- `LD B,B` (R200). -/
def execLd_B_B (s : State) : Result := ldReg .b .b s

/-- `LD B,C` (R200). -/
def execLd_B_C (s : State) : Result := ldReg .b .c s

/-- `LD B,D` (R200). -/
def execLd_B_D (s : State) : Result := ldReg .b .d s

/-- `LD B,E` (R200). -/
def execLd_B_E (s : State) : Result := ldReg .b .e s

/-- `LD B,H` (R200). -/
def execLd_B_H (s : State) : Result := ldReg .b .h s

/-- `LD B,L` (R200). -/
def execLd_B_L (s : State) : Result := ldReg .b .l s

/-- `LD B,(HL)` (R202). -/
def execLd_B_atHL (s : State) : Result := ldReg .b .atHL s

/-- `LD B,A` (R200). -/
def execLd_B_A (s : State) : Result := ldReg .b .a s

/-- `LD C,B` (R200). -/
def execLd_C_B (s : State) : Result := ldReg .c .b s

/-- `LD C,C` (R200). -/
def execLd_C_C (s : State) : Result := ldReg .c .c s

/-- `LD C,D` (R200). -/
def execLd_C_D (s : State) : Result := ldReg .c .d s

/-- `LD C,E` (R200). -/
def execLd_C_E (s : State) : Result := ldReg .c .e s

/-- `LD C,H` (R200). -/
def execLd_C_H (s : State) : Result := ldReg .c .h s

/-- `LD C,L` (R200). -/
def execLd_C_L (s : State) : Result := ldReg .c .l s

/-- `LD C,(HL)` (R202). -/
def execLd_C_atHL (s : State) : Result := ldReg .c .atHL s

/-- `LD C,A` (R200). -/
def execLd_C_A (s : State) : Result := ldReg .c .a s

/-- `LD D,B` (R200). -/
def execLd_D_B (s : State) : Result := ldReg .d .b s

/-- `LD D,C` (R200). -/
def execLd_D_C (s : State) : Result := ldReg .d .c s

/-- `LD D,D` (R200). -/
def execLd_D_D (s : State) : Result := ldReg .d .d s

/-- `LD D,E` (R200). -/
def execLd_D_E (s : State) : Result := ldReg .d .e s

/-- `LD D,H` (R200). -/
def execLd_D_H (s : State) : Result := ldReg .d .h s

/-- `LD D,L` (R200). -/
def execLd_D_L (s : State) : Result := ldReg .d .l s

/-- `LD D,(HL)` (R202). -/
def execLd_D_atHL (s : State) : Result := ldReg .d .atHL s

/-- `LD D,A` (R200). -/
def execLd_D_A (s : State) : Result := ldReg .d .a s

/-- `LD E,B` (R200). -/
def execLd_E_B (s : State) : Result := ldReg .e .b s

/-- `LD E,C` (R200). -/
def execLd_E_C (s : State) : Result := ldReg .e .c s

/-- `LD E,D` (R200). -/
def execLd_E_D (s : State) : Result := ldReg .e .d s

/-- `LD E,E` (R200). -/
def execLd_E_E (s : State) : Result := ldReg .e .e s

/-- `LD E,H` (R200). -/
def execLd_E_H (s : State) : Result := ldReg .e .h s

/-- `LD E,L` (R200). -/
def execLd_E_L (s : State) : Result := ldReg .e .l s

/-- `LD E,(HL)` (R202). -/
def execLd_E_atHL (s : State) : Result := ldReg .e .atHL s

/-- `LD E,A` (R200). -/
def execLd_E_A (s : State) : Result := ldReg .e .a s

/-- `LD H,B` (R200). -/
def execLd_H_B (s : State) : Result := ldReg .h .b s

/-- `LD H,C` (R200). -/
def execLd_H_C (s : State) : Result := ldReg .h .c s

/-- `LD H,D` (R200). -/
def execLd_H_D (s : State) : Result := ldReg .h .d s

/-- `LD H,E` (R200). -/
def execLd_H_E (s : State) : Result := ldReg .h .e s

/-- `LD H,H` (R200). -/
def execLd_H_H (s : State) : Result := ldReg .h .h s

/-- `LD H,L` (R200). -/
def execLd_H_L (s : State) : Result := ldReg .h .l s

/-- `LD H,(HL)` (R202). -/
def execLd_H_atHL (s : State) : Result := ldReg .h .atHL s

/-- `LD H,A` (R200). -/
def execLd_H_A (s : State) : Result := ldReg .h .a s

/-- `LD L,B` (R200). -/
def execLd_L_B (s : State) : Result := ldReg .l .b s

/-- `LD L,C` (R200). -/
def execLd_L_C (s : State) : Result := ldReg .l .c s

/-- `LD L,D` (R200). -/
def execLd_L_D (s : State) : Result := ldReg .l .d s

/-- `LD L,E` (R200). -/
def execLd_L_E (s : State) : Result := ldReg .l .e s

/-- `LD L,H` (R200). -/
def execLd_L_H (s : State) : Result := ldReg .l .h s

/-- `LD L,L` (R200). -/
def execLd_L_L (s : State) : Result := ldReg .l .l s

/-- `LD L,(HL)` (R202). -/
def execLd_L_atHL (s : State) : Result := ldReg .l .atHL s

/-- `LD L,A` (R200). -/
def execLd_L_A (s : State) : Result := ldReg .l .a s

/-- `LD (HL),B` (R203). -/
def execLd_atHL_B (s : State) : Result := ldReg .atHL .b s

/-- `LD (HL),C` (R203). -/
def execLd_atHL_C (s : State) : Result := ldReg .atHL .c s

/-- `LD (HL),D` (R203). -/
def execLd_atHL_D (s : State) : Result := ldReg .atHL .d s

/-- `LD (HL),E` (R203). -/
def execLd_atHL_E (s : State) : Result := ldReg .atHL .e s

/-- `LD (HL),H` (R203). -/
def execLd_atHL_H (s : State) : Result := ldReg .atHL .h s

/-- `LD (HL),L` (R203). -/
def execLd_atHL_L (s : State) : Result := ldReg .atHL .l s

/-- `LD (HL),A` (R203). -/
def execLd_atHL_A (s : State) : Result := ldReg .atHL .a s

/-- `LD A,B` (R200). -/
def execLd_A_B (s : State) : Result := ldReg .a .b s

/-- `LD A,C` (R200). -/
def execLd_A_C (s : State) : Result := ldReg .a .c s

/-- `LD A,D` (R200). -/
def execLd_A_D (s : State) : Result := ldReg .a .d s

/-- `LD A,E` (R200). -/
def execLd_A_E (s : State) : Result := ldReg .a .e s

/-- `LD A,H` (R200). -/
def execLd_A_H (s : State) : Result := ldReg .a .h s

/-- `LD A,L` (R200). -/
def execLd_A_L (s : State) : Result := ldReg .a .l s

/-- `LD A,(HL)` (R202). -/
def execLd_A_atHL (s : State) : Result := ldReg .a .atHL s

/-- `LD A,A` (R200). -/
def execLd_A_A (s : State) : Result := ldReg .a .a s

/-- `LDH (a8),A` (R212). -/
def execLdh_atA8_A (a : Byte) (s : State) : Result := storeA (highPage a) 12 s

/-- `LDH (C),A` (R214). -/
def execLdh_atC_A (s : State) : Result := storeA (highPage s.cpu.c) 8 s

/-- `LD (a16),A` (R210). -/
def execLd_atA16_A (a : Word) (s : State) : Result := storeA a 16 s

/-- `LDH A,(a8)` (R211). -/
def execLdh_A_atA8 (a : Byte) (s : State) : Result := loadA (highPage a) 12 s

/-- `LDH A,(C)` (R213). -/
def execLdh_A_atC (s : State) : Result := loadA (highPage s.cpu.c) 8 s

/-- `LD A,(a16)` (R209). -/
def execLd_A_atA16 (a : Word) (s : State) : Result := loadA a 16 s

end Sys2Proof.Machine
end

