-- ==== Sys2Proof/Machine/RotateShiftBit.lean ====
section
/-! DEFINITION. The rotates, shifts and bit instructions (44_rotate_shift_bit.md): first the operations they share, then
one meaning for each row of the table, the row of the escape byte 0xCB (46_system.md R356) last. -/

namespace Sys2Proof.Machine

open State

/-- A rotate of A (R300 to R303). -/
def rotateA (op : RotOp) (s : State) : Result :=
  let out := rotA8 op s.cpu.a s.cpu.f
  done (s.onCpu fun c => { c with a := out.value, f := out.flags }) 4

/-- `rot[y] r[z]` (R305 to R313). -/
def rotReg (op : RotOp) (r : R8) (s : State) : Result :=
  let out := rot8 op (s.get8 r) s.cpu.f
  done ((s.set8 r out.value).withF out.flags) (costOf r 8 16)

/-- `BIT b,r[z]` (R315): the operand is read and not written. -/
def bitReg (n : Fin 8) (r : R8) (s : State) : Result :=
  done (s.withF (bitFlags n (s.get8 r) s.cpu.f)) (costOf r 8 12)

/-- `RES b,r[z]` (R316). -/
def resReg (n : Fin 8) (r : R8) (s : State) : Result := done (s.set8 r (resBit n (s.get8 r))) (costOf r 8 16)

/-- `SET b,r[z]` (R317). -/
def setReg (n : Fin 8) (r : R8) (s : State) : Result := done (s.set8 r (setBit n (s.get8 r))) (costOf r 8 16)

/-- The instruction that R305 selects for the second byte `o`. -/
def cbOp (o : Byte) (s : State) : Result :=
  match opX o with
  | 0 => rotReg (rotOf (opY o)) (r8Of (opZ o)) s
  | 1 => bitReg (fin8Of (opY o)) (r8Of (opZ o)) s
  | 2 => resReg (fin8Of (opY o)) (r8Of (opZ o)) s
  | _ => setReg (fin8Of (opY o)) (r8Of (opZ o)) s

/-- `RLCA` (R300). -/
def execRlca (s : State) : Result := rotateA .rlc s

/-- `RRCA` (R301). -/
def execRrca (s : State) : Result := rotateA .rrc s

/-- `RLA` (R302). -/
def execRla (s : State) : Result := rotateA .rl s

/-- `RRA` (R303). -/
def execRra (s : State) : Result := rotateA .rr s

/-- `RLC B` (R306). -/
def execRlc_B (s : State) : Result := rotReg .rlc .b s

/-- `RLC C` (R306). -/
def execRlc_C (s : State) : Result := rotReg .rlc .c s

/-- `RLC D` (R306). -/
def execRlc_D (s : State) : Result := rotReg .rlc .d s

/-- `RLC E` (R306). -/
def execRlc_E (s : State) : Result := rotReg .rlc .e s

/-- `RLC H` (R306). -/
def execRlc_H (s : State) : Result := rotReg .rlc .h s

/-- `RLC L` (R306). -/
def execRlc_L (s : State) : Result := rotReg .rlc .l s

/-- `RLC (HL)` (R306). -/
def execRlc_atHL (s : State) : Result := rotReg .rlc .atHL s

/-- `RLC A` (R306). -/
def execRlc_A (s : State) : Result := rotReg .rlc .a s

/-- `RRC B` (R307). -/
def execRrc_B (s : State) : Result := rotReg .rrc .b s

/-- `RRC C` (R307). -/
def execRrc_C (s : State) : Result := rotReg .rrc .c s

/-- `RRC D` (R307). -/
def execRrc_D (s : State) : Result := rotReg .rrc .d s

/-- `RRC E` (R307). -/
def execRrc_E (s : State) : Result := rotReg .rrc .e s

/-- `RRC H` (R307). -/
def execRrc_H (s : State) : Result := rotReg .rrc .h s

/-- `RRC L` (R307). -/
def execRrc_L (s : State) : Result := rotReg .rrc .l s

/-- `RRC (HL)` (R307). -/
def execRrc_atHL (s : State) : Result := rotReg .rrc .atHL s

/-- `RRC A` (R307). -/
def execRrc_A (s : State) : Result := rotReg .rrc .a s

/-- `RL B` (R308). -/
def execRl_B (s : State) : Result := rotReg .rl .b s

/-- `RL C` (R308). -/
def execRl_C (s : State) : Result := rotReg .rl .c s

/-- `RL D` (R308). -/
def execRl_D (s : State) : Result := rotReg .rl .d s

/-- `RL E` (R308). -/
def execRl_E (s : State) : Result := rotReg .rl .e s

/-- `RL H` (R308). -/
def execRl_H (s : State) : Result := rotReg .rl .h s

/-- `RL L` (R308). -/
def execRl_L (s : State) : Result := rotReg .rl .l s

/-- `RL (HL)` (R308). -/
def execRl_atHL (s : State) : Result := rotReg .rl .atHL s

/-- `RL A` (R308). -/
def execRl_A (s : State) : Result := rotReg .rl .a s

/-- `RR B` (R309). -/
def execRr_B (s : State) : Result := rotReg .rr .b s

/-- `RR C` (R309). -/
def execRr_C (s : State) : Result := rotReg .rr .c s

/-- `RR D` (R309). -/
def execRr_D (s : State) : Result := rotReg .rr .d s

/-- `RR E` (R309). -/
def execRr_E (s : State) : Result := rotReg .rr .e s

/-- `RR H` (R309). -/
def execRr_H (s : State) : Result := rotReg .rr .h s

/-- `RR L` (R309). -/
def execRr_L (s : State) : Result := rotReg .rr .l s

/-- `RR (HL)` (R309). -/
def execRr_atHL (s : State) : Result := rotReg .rr .atHL s

/-- `RR A` (R309). -/
def execRr_A (s : State) : Result := rotReg .rr .a s

/-- `SLA B` (R310). -/
def execSla_B (s : State) : Result := rotReg .sla .b s

/-- `SLA C` (R310). -/
def execSla_C (s : State) : Result := rotReg .sla .c s

/-- `SLA D` (R310). -/
def execSla_D (s : State) : Result := rotReg .sla .d s

/-- `SLA E` (R310). -/
def execSla_E (s : State) : Result := rotReg .sla .e s

/-- `SLA H` (R310). -/
def execSla_H (s : State) : Result := rotReg .sla .h s

/-- `SLA L` (R310). -/
def execSla_L (s : State) : Result := rotReg .sla .l s

/-- `SLA (HL)` (R310). -/
def execSla_atHL (s : State) : Result := rotReg .sla .atHL s

/-- `SLA A` (R310). -/
def execSla_A (s : State) : Result := rotReg .sla .a s

/-- `SRA B` (R311). -/
def execSra_B (s : State) : Result := rotReg .sra .b s

/-- `SRA C` (R311). -/
def execSra_C (s : State) : Result := rotReg .sra .c s

/-- `SRA D` (R311). -/
def execSra_D (s : State) : Result := rotReg .sra .d s

/-- `SRA E` (R311). -/
def execSra_E (s : State) : Result := rotReg .sra .e s

/-- `SRA H` (R311). -/
def execSra_H (s : State) : Result := rotReg .sra .h s

/-- `SRA L` (R311). -/
def execSra_L (s : State) : Result := rotReg .sra .l s

/-- `SRA (HL)` (R311). -/
def execSra_atHL (s : State) : Result := rotReg .sra .atHL s

/-- `SRA A` (R311). -/
def execSra_A (s : State) : Result := rotReg .sra .a s

/-- `SWAP B` (R312). -/
def execSwap_B (s : State) : Result := rotReg .swap .b s

/-- `SWAP C` (R312). -/
def execSwap_C (s : State) : Result := rotReg .swap .c s

/-- `SWAP D` (R312). -/
def execSwap_D (s : State) : Result := rotReg .swap .d s

/-- `SWAP E` (R312). -/
def execSwap_E (s : State) : Result := rotReg .swap .e s

/-- `SWAP H` (R312). -/
def execSwap_H (s : State) : Result := rotReg .swap .h s

/-- `SWAP L` (R312). -/
def execSwap_L (s : State) : Result := rotReg .swap .l s

/-- `SWAP (HL)` (R312). -/
def execSwap_atHL (s : State) : Result := rotReg .swap .atHL s

/-- `SWAP A` (R312). -/
def execSwap_A (s : State) : Result := rotReg .swap .a s

/-- `SRL B` (R313). -/
def execSrl_B (s : State) : Result := rotReg .srl .b s

/-- `SRL C` (R313). -/
def execSrl_C (s : State) : Result := rotReg .srl .c s

/-- `SRL D` (R313). -/
def execSrl_D (s : State) : Result := rotReg .srl .d s

/-- `SRL E` (R313). -/
def execSrl_E (s : State) : Result := rotReg .srl .e s

/-- `SRL H` (R313). -/
def execSrl_H (s : State) : Result := rotReg .srl .h s

/-- `SRL L` (R313). -/
def execSrl_L (s : State) : Result := rotReg .srl .l s

/-- `SRL (HL)` (R313). -/
def execSrl_atHL (s : State) : Result := rotReg .srl .atHL s

/-- `SRL A` (R313). -/
def execSrl_A (s : State) : Result := rotReg .srl .a s

/-- `BIT 0,B` (R315). -/
def execBit_0_B (s : State) : Result := bitReg 0 .b s

/-- `BIT 0,C` (R315). -/
def execBit_0_C (s : State) : Result := bitReg 0 .c s

/-- `BIT 0,D` (R315). -/
def execBit_0_D (s : State) : Result := bitReg 0 .d s

/-- `BIT 0,E` (R315). -/
def execBit_0_E (s : State) : Result := bitReg 0 .e s

/-- `BIT 0,H` (R315). -/
def execBit_0_H (s : State) : Result := bitReg 0 .h s

/-- `BIT 0,L` (R315). -/
def execBit_0_L (s : State) : Result := bitReg 0 .l s

/-- `BIT 0,(HL)` (R315). -/
def execBit_0_atHL (s : State) : Result := bitReg 0 .atHL s

/-- `BIT 0,A` (R315). -/
def execBit_0_A (s : State) : Result := bitReg 0 .a s

/-- `BIT 1,B` (R315). -/
def execBit_1_B (s : State) : Result := bitReg 1 .b s

/-- `BIT 1,C` (R315). -/
def execBit_1_C (s : State) : Result := bitReg 1 .c s

/-- `BIT 1,D` (R315). -/
def execBit_1_D (s : State) : Result := bitReg 1 .d s

/-- `BIT 1,E` (R315). -/
def execBit_1_E (s : State) : Result := bitReg 1 .e s

/-- `BIT 1,H` (R315). -/
def execBit_1_H (s : State) : Result := bitReg 1 .h s

/-- `BIT 1,L` (R315). -/
def execBit_1_L (s : State) : Result := bitReg 1 .l s

/-- `BIT 1,(HL)` (R315). -/
def execBit_1_atHL (s : State) : Result := bitReg 1 .atHL s

/-- `BIT 1,A` (R315). -/
def execBit_1_A (s : State) : Result := bitReg 1 .a s

/-- `BIT 2,B` (R315). -/
def execBit_2_B (s : State) : Result := bitReg 2 .b s

/-- `BIT 2,C` (R315). -/
def execBit_2_C (s : State) : Result := bitReg 2 .c s

/-- `BIT 2,D` (R315). -/
def execBit_2_D (s : State) : Result := bitReg 2 .d s

/-- `BIT 2,E` (R315). -/
def execBit_2_E (s : State) : Result := bitReg 2 .e s

/-- `BIT 2,H` (R315). -/
def execBit_2_H (s : State) : Result := bitReg 2 .h s

/-- `BIT 2,L` (R315). -/
def execBit_2_L (s : State) : Result := bitReg 2 .l s

/-- `BIT 2,(HL)` (R315). -/
def execBit_2_atHL (s : State) : Result := bitReg 2 .atHL s

/-- `BIT 2,A` (R315). -/
def execBit_2_A (s : State) : Result := bitReg 2 .a s

/-- `BIT 3,B` (R315). -/
def execBit_3_B (s : State) : Result := bitReg 3 .b s

/-- `BIT 3,C` (R315). -/
def execBit_3_C (s : State) : Result := bitReg 3 .c s

/-- `BIT 3,D` (R315). -/
def execBit_3_D (s : State) : Result := bitReg 3 .d s

/-- `BIT 3,E` (R315). -/
def execBit_3_E (s : State) : Result := bitReg 3 .e s

/-- `BIT 3,H` (R315). -/
def execBit_3_H (s : State) : Result := bitReg 3 .h s

/-- `BIT 3,L` (R315). -/
def execBit_3_L (s : State) : Result := bitReg 3 .l s

/-- `BIT 3,(HL)` (R315). -/
def execBit_3_atHL (s : State) : Result := bitReg 3 .atHL s

/-- `BIT 3,A` (R315). -/
def execBit_3_A (s : State) : Result := bitReg 3 .a s

/-- `BIT 4,B` (R315). -/
def execBit_4_B (s : State) : Result := bitReg 4 .b s

/-- `BIT 4,C` (R315). -/
def execBit_4_C (s : State) : Result := bitReg 4 .c s

/-- `BIT 4,D` (R315). -/
def execBit_4_D (s : State) : Result := bitReg 4 .d s

/-- `BIT 4,E` (R315). -/
def execBit_4_E (s : State) : Result := bitReg 4 .e s

/-- `BIT 4,H` (R315). -/
def execBit_4_H (s : State) : Result := bitReg 4 .h s

/-- `BIT 4,L` (R315). -/
def execBit_4_L (s : State) : Result := bitReg 4 .l s

/-- `BIT 4,(HL)` (R315). -/
def execBit_4_atHL (s : State) : Result := bitReg 4 .atHL s

/-- `BIT 4,A` (R315). -/
def execBit_4_A (s : State) : Result := bitReg 4 .a s

/-- `BIT 5,B` (R315). -/
def execBit_5_B (s : State) : Result := bitReg 5 .b s

/-- `BIT 5,C` (R315). -/
def execBit_5_C (s : State) : Result := bitReg 5 .c s

/-- `BIT 5,D` (R315). -/
def execBit_5_D (s : State) : Result := bitReg 5 .d s

/-- `BIT 5,E` (R315). -/
def execBit_5_E (s : State) : Result := bitReg 5 .e s

/-- `BIT 5,H` (R315). -/
def execBit_5_H (s : State) : Result := bitReg 5 .h s

/-- `BIT 5,L` (R315). -/
def execBit_5_L (s : State) : Result := bitReg 5 .l s

/-- `BIT 5,(HL)` (R315). -/
def execBit_5_atHL (s : State) : Result := bitReg 5 .atHL s

/-- `BIT 5,A` (R315). -/
def execBit_5_A (s : State) : Result := bitReg 5 .a s

/-- `BIT 6,B` (R315). -/
def execBit_6_B (s : State) : Result := bitReg 6 .b s

/-- `BIT 6,C` (R315). -/
def execBit_6_C (s : State) : Result := bitReg 6 .c s

/-- `BIT 6,D` (R315). -/
def execBit_6_D (s : State) : Result := bitReg 6 .d s

/-- `BIT 6,E` (R315). -/
def execBit_6_E (s : State) : Result := bitReg 6 .e s

/-- `BIT 6,H` (R315). -/
def execBit_6_H (s : State) : Result := bitReg 6 .h s

/-- `BIT 6,L` (R315). -/
def execBit_6_L (s : State) : Result := bitReg 6 .l s

/-- `BIT 6,(HL)` (R315). -/
def execBit_6_atHL (s : State) : Result := bitReg 6 .atHL s

/-- `BIT 6,A` (R315). -/
def execBit_6_A (s : State) : Result := bitReg 6 .a s

/-- `BIT 7,B` (R315). -/
def execBit_7_B (s : State) : Result := bitReg 7 .b s

/-- `BIT 7,C` (R315). -/
def execBit_7_C (s : State) : Result := bitReg 7 .c s

/-- `BIT 7,D` (R315). -/
def execBit_7_D (s : State) : Result := bitReg 7 .d s

/-- `BIT 7,E` (R315). -/
def execBit_7_E (s : State) : Result := bitReg 7 .e s

/-- `BIT 7,H` (R315). -/
def execBit_7_H (s : State) : Result := bitReg 7 .h s

/-- `BIT 7,L` (R315). -/
def execBit_7_L (s : State) : Result := bitReg 7 .l s

/-- `BIT 7,(HL)` (R315). -/
def execBit_7_atHL (s : State) : Result := bitReg 7 .atHL s

/-- `BIT 7,A` (R315). -/
def execBit_7_A (s : State) : Result := bitReg 7 .a s

/-- `RES 0,B` (R316). -/
def execRes_0_B (s : State) : Result := resReg 0 .b s

/-- `RES 0,C` (R316). -/
def execRes_0_C (s : State) : Result := resReg 0 .c s

/-- `RES 0,D` (R316). -/
def execRes_0_D (s : State) : Result := resReg 0 .d s

/-- `RES 0,E` (R316). -/
def execRes_0_E (s : State) : Result := resReg 0 .e s

/-- `RES 0,H` (R316). -/
def execRes_0_H (s : State) : Result := resReg 0 .h s

/-- `RES 0,L` (R316). -/
def execRes_0_L (s : State) : Result := resReg 0 .l s

/-- `RES 0,(HL)` (R316). -/
def execRes_0_atHL (s : State) : Result := resReg 0 .atHL s

/-- `RES 0,A` (R316). -/
def execRes_0_A (s : State) : Result := resReg 0 .a s

/-- `RES 1,B` (R316). -/
def execRes_1_B (s : State) : Result := resReg 1 .b s

/-- `RES 1,C` (R316). -/
def execRes_1_C (s : State) : Result := resReg 1 .c s

/-- `RES 1,D` (R316). -/
def execRes_1_D (s : State) : Result := resReg 1 .d s

/-- `RES 1,E` (R316). -/
def execRes_1_E (s : State) : Result := resReg 1 .e s

/-- `RES 1,H` (R316). -/
def execRes_1_H (s : State) : Result := resReg 1 .h s

/-- `RES 1,L` (R316). -/
def execRes_1_L (s : State) : Result := resReg 1 .l s

/-- `RES 1,(HL)` (R316). -/
def execRes_1_atHL (s : State) : Result := resReg 1 .atHL s

/-- `RES 1,A` (R316). -/
def execRes_1_A (s : State) : Result := resReg 1 .a s

/-- `RES 2,B` (R316). -/
def execRes_2_B (s : State) : Result := resReg 2 .b s

/-- `RES 2,C` (R316). -/
def execRes_2_C (s : State) : Result := resReg 2 .c s

/-- `RES 2,D` (R316). -/
def execRes_2_D (s : State) : Result := resReg 2 .d s

/-- `RES 2,E` (R316). -/
def execRes_2_E (s : State) : Result := resReg 2 .e s

/-- `RES 2,H` (R316). -/
def execRes_2_H (s : State) : Result := resReg 2 .h s

/-- `RES 2,L` (R316). -/
def execRes_2_L (s : State) : Result := resReg 2 .l s

/-- `RES 2,(HL)` (R316). -/
def execRes_2_atHL (s : State) : Result := resReg 2 .atHL s

/-- `RES 2,A` (R316). -/
def execRes_2_A (s : State) : Result := resReg 2 .a s

/-- `RES 3,B` (R316). -/
def execRes_3_B (s : State) : Result := resReg 3 .b s

/-- `RES 3,C` (R316). -/
def execRes_3_C (s : State) : Result := resReg 3 .c s

/-- `RES 3,D` (R316). -/
def execRes_3_D (s : State) : Result := resReg 3 .d s

/-- `RES 3,E` (R316). -/
def execRes_3_E (s : State) : Result := resReg 3 .e s

/-- `RES 3,H` (R316). -/
def execRes_3_H (s : State) : Result := resReg 3 .h s

/-- `RES 3,L` (R316). -/
def execRes_3_L (s : State) : Result := resReg 3 .l s

/-- `RES 3,(HL)` (R316). -/
def execRes_3_atHL (s : State) : Result := resReg 3 .atHL s

/-- `RES 3,A` (R316). -/
def execRes_3_A (s : State) : Result := resReg 3 .a s

/-- `RES 4,B` (R316). -/
def execRes_4_B (s : State) : Result := resReg 4 .b s

/-- `RES 4,C` (R316). -/
def execRes_4_C (s : State) : Result := resReg 4 .c s

/-- `RES 4,D` (R316). -/
def execRes_4_D (s : State) : Result := resReg 4 .d s

/-- `RES 4,E` (R316). -/
def execRes_4_E (s : State) : Result := resReg 4 .e s

/-- `RES 4,H` (R316). -/
def execRes_4_H (s : State) : Result := resReg 4 .h s

/-- `RES 4,L` (R316). -/
def execRes_4_L (s : State) : Result := resReg 4 .l s

/-- `RES 4,(HL)` (R316). -/
def execRes_4_atHL (s : State) : Result := resReg 4 .atHL s

/-- `RES 4,A` (R316). -/
def execRes_4_A (s : State) : Result := resReg 4 .a s

/-- `RES 5,B` (R316). -/
def execRes_5_B (s : State) : Result := resReg 5 .b s

/-- `RES 5,C` (R316). -/
def execRes_5_C (s : State) : Result := resReg 5 .c s

/-- `RES 5,D` (R316). -/
def execRes_5_D (s : State) : Result := resReg 5 .d s

/-- `RES 5,E` (R316). -/
def execRes_5_E (s : State) : Result := resReg 5 .e s

/-- `RES 5,H` (R316). -/
def execRes_5_H (s : State) : Result := resReg 5 .h s

/-- `RES 5,L` (R316). -/
def execRes_5_L (s : State) : Result := resReg 5 .l s

/-- `RES 5,(HL)` (R316). -/
def execRes_5_atHL (s : State) : Result := resReg 5 .atHL s

/-- `RES 5,A` (R316). -/
def execRes_5_A (s : State) : Result := resReg 5 .a s

/-- `RES 6,B` (R316). -/
def execRes_6_B (s : State) : Result := resReg 6 .b s

/-- `RES 6,C` (R316). -/
def execRes_6_C (s : State) : Result := resReg 6 .c s

/-- `RES 6,D` (R316). -/
def execRes_6_D (s : State) : Result := resReg 6 .d s

/-- `RES 6,E` (R316). -/
def execRes_6_E (s : State) : Result := resReg 6 .e s

/-- `RES 6,H` (R316). -/
def execRes_6_H (s : State) : Result := resReg 6 .h s

/-- `RES 6,L` (R316). -/
def execRes_6_L (s : State) : Result := resReg 6 .l s

/-- `RES 6,(HL)` (R316). -/
def execRes_6_atHL (s : State) : Result := resReg 6 .atHL s

/-- `RES 6,A` (R316). -/
def execRes_6_A (s : State) : Result := resReg 6 .a s

/-- `RES 7,B` (R316). -/
def execRes_7_B (s : State) : Result := resReg 7 .b s

/-- `RES 7,C` (R316). -/
def execRes_7_C (s : State) : Result := resReg 7 .c s

/-- `RES 7,D` (R316). -/
def execRes_7_D (s : State) : Result := resReg 7 .d s

/-- `RES 7,E` (R316). -/
def execRes_7_E (s : State) : Result := resReg 7 .e s

/-- `RES 7,H` (R316). -/
def execRes_7_H (s : State) : Result := resReg 7 .h s

/-- `RES 7,L` (R316). -/
def execRes_7_L (s : State) : Result := resReg 7 .l s

/-- `RES 7,(HL)` (R316). -/
def execRes_7_atHL (s : State) : Result := resReg 7 .atHL s

/-- `RES 7,A` (R316). -/
def execRes_7_A (s : State) : Result := resReg 7 .a s

/-- `SET 0,B` (R317). -/
def execSet_0_B (s : State) : Result := setReg 0 .b s

/-- `SET 0,C` (R317). -/
def execSet_0_C (s : State) : Result := setReg 0 .c s

/-- `SET 0,D` (R317). -/
def execSet_0_D (s : State) : Result := setReg 0 .d s

/-- `SET 0,E` (R317). -/
def execSet_0_E (s : State) : Result := setReg 0 .e s

/-- `SET 0,H` (R317). -/
def execSet_0_H (s : State) : Result := setReg 0 .h s

/-- `SET 0,L` (R317). -/
def execSet_0_L (s : State) : Result := setReg 0 .l s

/-- `SET 0,(HL)` (R317). -/
def execSet_0_atHL (s : State) : Result := setReg 0 .atHL s

/-- `SET 0,A` (R317). -/
def execSet_0_A (s : State) : Result := setReg 0 .a s

/-- `SET 1,B` (R317). -/
def execSet_1_B (s : State) : Result := setReg 1 .b s

/-- `SET 1,C` (R317). -/
def execSet_1_C (s : State) : Result := setReg 1 .c s

/-- `SET 1,D` (R317). -/
def execSet_1_D (s : State) : Result := setReg 1 .d s

/-- `SET 1,E` (R317). -/
def execSet_1_E (s : State) : Result := setReg 1 .e s

/-- `SET 1,H` (R317). -/
def execSet_1_H (s : State) : Result := setReg 1 .h s

/-- `SET 1,L` (R317). -/
def execSet_1_L (s : State) : Result := setReg 1 .l s

/-- `SET 1,(HL)` (R317). -/
def execSet_1_atHL (s : State) : Result := setReg 1 .atHL s

/-- `SET 1,A` (R317). -/
def execSet_1_A (s : State) : Result := setReg 1 .a s

/-- `SET 2,B` (R317). -/
def execSet_2_B (s : State) : Result := setReg 2 .b s

/-- `SET 2,C` (R317). -/
def execSet_2_C (s : State) : Result := setReg 2 .c s

/-- `SET 2,D` (R317). -/
def execSet_2_D (s : State) : Result := setReg 2 .d s

/-- `SET 2,E` (R317). -/
def execSet_2_E (s : State) : Result := setReg 2 .e s

/-- `SET 2,H` (R317). -/
def execSet_2_H (s : State) : Result := setReg 2 .h s

/-- `SET 2,L` (R317). -/
def execSet_2_L (s : State) : Result := setReg 2 .l s

/-- `SET 2,(HL)` (R317). -/
def execSet_2_atHL (s : State) : Result := setReg 2 .atHL s

/-- `SET 2,A` (R317). -/
def execSet_2_A (s : State) : Result := setReg 2 .a s

/-- `SET 3,B` (R317). -/
def execSet_3_B (s : State) : Result := setReg 3 .b s

/-- `SET 3,C` (R317). -/
def execSet_3_C (s : State) : Result := setReg 3 .c s

/-- `SET 3,D` (R317). -/
def execSet_3_D (s : State) : Result := setReg 3 .d s

/-- `SET 3,E` (R317). -/
def execSet_3_E (s : State) : Result := setReg 3 .e s

/-- `SET 3,H` (R317). -/
def execSet_3_H (s : State) : Result := setReg 3 .h s

/-- `SET 3,L` (R317). -/
def execSet_3_L (s : State) : Result := setReg 3 .l s

/-- `SET 3,(HL)` (R317). -/
def execSet_3_atHL (s : State) : Result := setReg 3 .atHL s

/-- `SET 3,A` (R317). -/
def execSet_3_A (s : State) : Result := setReg 3 .a s

/-- `SET 4,B` (R317). -/
def execSet_4_B (s : State) : Result := setReg 4 .b s

/-- `SET 4,C` (R317). -/
def execSet_4_C (s : State) : Result := setReg 4 .c s

/-- `SET 4,D` (R317). -/
def execSet_4_D (s : State) : Result := setReg 4 .d s

/-- `SET 4,E` (R317). -/
def execSet_4_E (s : State) : Result := setReg 4 .e s

/-- `SET 4,H` (R317). -/
def execSet_4_H (s : State) : Result := setReg 4 .h s

/-- `SET 4,L` (R317). -/
def execSet_4_L (s : State) : Result := setReg 4 .l s

/-- `SET 4,(HL)` (R317). -/
def execSet_4_atHL (s : State) : Result := setReg 4 .atHL s

/-- `SET 4,A` (R317). -/
def execSet_4_A (s : State) : Result := setReg 4 .a s

/-- `SET 5,B` (R317). -/
def execSet_5_B (s : State) : Result := setReg 5 .b s

/-- `SET 5,C` (R317). -/
def execSet_5_C (s : State) : Result := setReg 5 .c s

/-- `SET 5,D` (R317). -/
def execSet_5_D (s : State) : Result := setReg 5 .d s

/-- `SET 5,E` (R317). -/
def execSet_5_E (s : State) : Result := setReg 5 .e s

/-- `SET 5,H` (R317). -/
def execSet_5_H (s : State) : Result := setReg 5 .h s

/-- `SET 5,L` (R317). -/
def execSet_5_L (s : State) : Result := setReg 5 .l s

/-- `SET 5,(HL)` (R317). -/
def execSet_5_atHL (s : State) : Result := setReg 5 .atHL s

/-- `SET 5,A` (R317). -/
def execSet_5_A (s : State) : Result := setReg 5 .a s

/-- `SET 6,B` (R317). -/
def execSet_6_B (s : State) : Result := setReg 6 .b s

/-- `SET 6,C` (R317). -/
def execSet_6_C (s : State) : Result := setReg 6 .c s

/-- `SET 6,D` (R317). -/
def execSet_6_D (s : State) : Result := setReg 6 .d s

/-- `SET 6,E` (R317). -/
def execSet_6_E (s : State) : Result := setReg 6 .e s

/-- `SET 6,H` (R317). -/
def execSet_6_H (s : State) : Result := setReg 6 .h s

/-- `SET 6,L` (R317). -/
def execSet_6_L (s : State) : Result := setReg 6 .l s

/-- `SET 6,(HL)` (R317). -/
def execSet_6_atHL (s : State) : Result := setReg 6 .atHL s

/-- `SET 6,A` (R317). -/
def execSet_6_A (s : State) : Result := setReg 6 .a s

/-- `SET 7,B` (R317). -/
def execSet_7_B (s : State) : Result := setReg 7 .b s

/-- `SET 7,C` (R317). -/
def execSet_7_C (s : State) : Result := setReg 7 .c s

/-- `SET 7,D` (R317). -/
def execSet_7_D (s : State) : Result := setReg 7 .d s

/-- `SET 7,E` (R317). -/
def execSet_7_E (s : State) : Result := setReg 7 .e s

/-- `SET 7,H` (R317). -/
def execSet_7_H (s : State) : Result := setReg 7 .h s

/-- `SET 7,L` (R317). -/
def execSet_7_L (s : State) : Result := setReg 7 .l s

/-- `SET 7,(HL)` (R317). -/
def execSet_7_atHL (s : State) : Result := setReg 7 .atHL s

/-- `SET 7,A` (R317). -/
def execSet_7_A (s : State) : Result := setReg 7 .a s

/-- `PREFIX CB` (R356). -/
def execPrefixCb (o : Byte) (s : State) : Result := cbOp o s

end Sys2Proof.Machine
end

