-- ==== Sys2Proof/Machine/System.lean ====
section
/-! DEFINITION. NOP, STOP, HALT, DI, EI and the illegal opcodes (46_system.md), one meaning for each row of the table. -/

namespace Sys2Proof.Machine

open State

/-- `STOP` (R351): byte 1 was fetched with the instruction, its value is discarded, and nothing else happens. -/
def discardOperand (_ : Byte) (s : State) : Result := done s 4

/-- `NOP` (R350). -/
def execNop (s : State) : Result := done s 4

/-- `STOP` (R351). -/
def execStop (n : Byte) (s : State) : Result := discardOperand n s

/-- `HALT` (R352). -/
def execHalt (s : State) : Result := done (s.onCpu fun c => { c with halted := true }) 4

/-- `opcode 0xD3` (R355). -/
def execIllegal_D3 (s : State) : Result := .next (s.raiseIllegal 0xD3#8)

/-- `opcode 0xDB` (R355). -/
def execIllegal_DB (s : State) : Result := .next (s.raiseIllegal 0xDB#8)

/-- `opcode 0xDD` (R355). -/
def execIllegal_DD (s : State) : Result := .next (s.raiseIllegal 0xDD#8)

/-- `opcode 0xE3` (R355). -/
def execIllegal_E3 (s : State) : Result := .next (s.raiseIllegal 0xE3#8)

/-- `opcode 0xE4` (R355). -/
def execIllegal_E4 (s : State) : Result := .next (s.raiseIllegal 0xE4#8)

/-- `opcode 0xEB` (R355). -/
def execIllegal_EB (s : State) : Result := .next (s.raiseIllegal 0xEB#8)

/-- `opcode 0xEC` (R355). -/
def execIllegal_EC (s : State) : Result := .next (s.raiseIllegal 0xEC#8)

/-- `opcode 0xED` (R355). -/
def execIllegal_ED (s : State) : Result := .next (s.raiseIllegal 0xED#8)

/-- `DI` (R353). -/
def execDi (s : State) : Result := done (s.onCpu fun c => { c with ime := false, imePending := false }) 4

/-- `opcode 0xF4` (R355). -/
def execIllegal_F4 (s : State) : Result := .next (s.raiseIllegal 0xF4#8)

/-- `EI` (R354). -/
def execEi (s : State) : Result := done (s.onCpu fun c => { c with imePending := true }) 4

/-- `opcode 0xFC` (R355). -/
def execIllegal_FC (s : State) : Result := .next (s.raiseIllegal 0xFC#8)

/-- `opcode 0xFD` (R355). -/
def execIllegal_FD (s : State) : Result := .next (s.raiseIllegal 0xFD#8)

end Sys2Proof.Machine
end

