-- ==== Sys2Proof/Machine/Ppu.lean ====
section
/-! DEFINITION. The PPU (62_ppu.md): composing a scanline from background, window and sprites, column by column; what
happens when a scanline completes; the PPU's part of a step. No layer of R429 reads or writes another column than its own,
so the loops over columns are one `map` (log entry 12). -/

namespace Sys2Proof.Machine

/-! ### Pixels (R448, R450) -/

/-- One column of the line being composed: `raster[ly][x]`, `tag[x]`, `bgidx[x]`. -/
structure Column where
  pixel : Pixel
  tag   : Tag
  bgIdx : BitVec 2
  deriving DecidableEq, Repr

/-- The number of a priority tag (R448). -/
def Tag.rank : Tag → Nat
  | .clear => 0
  | .background => 1
  | .window => 2
  | .spriteBehind => 3
  | .spriteAbove => 4

/-- `Put(x, t, colour)` (R448). -/
def Column.put (c : Column) (t : Tag) (colour : Pixel) : Column :=
  if c.tag.rank ≤ t.rank then { c with pixel := colour, tag := t } else c

/-- Five bits to eight by bit replication (R450). -/
def expand5 (x : BitVec 5) : Byte := x ++ x.extractLsb' 2 3

/-- Colour `idx` of palette `p` of a CGB palette memory (R43, R450). -/
def PalettePort.colour (port : PalettePort) (p : BitVec 3) (idx : BitVec 2) : Pixel :=
  let i := 8 * p.toNat + 2 * idx.toNat
  let w := Word.ofBytes (port.cells.read (i + 1)) (port.cells.read i)
  .rgb (expand5 (w.extractLsb' 0 5)) (expand5 (w.extractLsb' 5 5)) (expand5 (w.extractLsb' 10 5))

/-- Entry `idx` of a DMG palette register (R42, R432). -/
def dmgShade (palette : Byte) (idx : BitVec 2) : Pixel := .shade (palette.extractLsb' (2 * idx.toNat) 2)

/-- The colour index of column `col` (0 the leftmost) of a pattern row: high bitplane, low bitplane (R430, R440). -/
def patternIdx (lo hi : Byte) (col : Nat) : BitVec 2 :=
  BitVec.ofBool (hi.getLsbD (7 - col)) ++ BitVec.ofBool (lo.getLsbD (7 - col))

/-- A row or column number, counted from the other end under a flip (R430, R440). -/
def flipped (flip : Bool) (last i : Nat) : Nat := if flip then last - i else i

namespace State

/-! ### Background and window (R430 to R434) -/

/-- The VRAM cell of a pattern's row: `t * 16` from 8000, or signed around 9000 (R430). -/
def patternCell (s : State) (tile : Byte) (row : Nat) : Nat :=
  (if s.ppu.lcdc.getLsbD 4 then 16 * tile.toNat else (0x1000 + tile.toInt * 16).toNat) + 2 * row

/-- `TilePixel(map_base, mx, my)` (R430): the colour index and the tile's attributes. -/
def tilePixel (s : State) (mapBase mx my : Nat) : BitVec 2 × Byte :=
  let cell := mapBase + my / 8 * 32 + mx / 8
  let attrs := if s.cart.cgbMode then s.mem.vram.read (8192 + cell) else 0x00#8
  let row := flipped (attrs.getLsbD 6) 7 (my % 8)
  let col := flipped (attrs.getLsbD 5) 7 (mx % 8)
  let i := 8192 * (attrs.getLsbD 3).toNat + s.patternCell (s.mem.vram.read cell) row
  (patternIdx (s.mem.vram.read i) (s.mem.vram.read (i + 1)) col, attrs)

/-- `BgColour(idx, a)` (R432, R433). -/
def bgColour (s : State) (idx : BitVec 2) (attrs : Byte) : Pixel :=
  if s.cart.cgbMode then s.ppu.bgPal.colour (attrs.extractLsb' 0 3) idx else dmgShade s.ppu.bgp idx

/-- The tile map an LCDC bit selects (R39, R430). -/
def mapBase (s : State) (bit : Nat) : Nat := if s.ppu.lcdc.getLsbD bit then 0x1C00 else 0x1800

/-- A background or window pixel. -/
def drawTile (s : State) (t : Tag) (base mx my : Nat) (c : Column) : Column :=
  let px := s.tilePixel base mx my
  { c.put t (s.bgColour px.1 px.2) with bgIdx := px.1 }

/-- `DrawBackground(ly)` at column `x` (R432). -/
def drawBackground (s : State) (ly x : Nat) (c : Column) : Column :=
  s.drawTile .background (s.mapBase 3) ((x + s.ppu.scx.toNat) % 256) ((ly + s.ppu.scy.toNat) % 256) c

/-- `DrawWindow(ly)` at column `x` (R434): the window begins at column `WX - 7` and line `WY`. -/
def drawWindow (s : State) (ly x : Nat) (c : Column) : Column :=
  if s.ppu.wy.toNat ≤ ly ∧ s.ppu.wx.toNat ≤ x + 7 then
    s.drawTile .window (s.mapBase 6) (x + 7 - s.ppu.wx.toNat) (ly - s.ppu.wy.toNat) c
  else c

/-! ### Sprites (R440, R445, R449) -/

end State

/-- An OAM entry (R445). -/
structure Sprite where
  y     : Byte
  x     : Byte
  tile  : Byte
  attrs : Byte
  deriving DecidableEq, Repr

namespace State

/-- Entry `i` of OAM (R445). -/
def sprite (s : State) (i : Nat) : Sprite :=
  { y := s.mem.oam.read (4 * i), x := s.mem.oam.read (4 * i + 1)
    tile := s.mem.oam.read (4 * i + 2), attrs := s.mem.oam.read (4 * i + 3) }

/-- The height LCDC bit 2 selects (R39, R440). -/
def spriteHeight (s : State) : Nat := if s.ppu.lcdc.getLsbD 2 then 16 else 8

/-- `top <= ly < top + h` with `top = Y - 16` (R440). -/
def onLine (s : State) (ly : Nat) (o : Sprite) : Bool :=
  decide (o.y.toNat ≤ ly + 16 ∧ ly + 16 < o.y.toNat + s.spriteHeight)

/-- The sprites of a line: the first ten that lie on it, in ascending OAM order (R440). -/
def lineSprites (s : State) (ly : Nat) : List Sprite :=
  (((List.range 40).map s.sprite).filter (s.onLine ly)).take 10

/-- `ObjColour(idx, a)` (R440). -/
def objColour (s : State) (idx : BitVec 2) (attrs : Byte) : Pixel :=
  if s.cart.cgbMode then s.ppu.objPal.colour (attrs.extractLsb' 0 3) idx
  else dmgShade (if attrs.getLsbD 4 then s.ppu.obp1 else s.ppu.obp0) idx

/-- A sprite's colour index at column `x` of line `ly`; its row and column are inside it (R440). -/
def spriteIdx (s : State) (ly x : Nat) (o : Sprite) : BitVec 2 :=
  let h := s.spriteHeight
  let row := flipped (o.attrs.getLsbD 6) (h - 1) (ly + 16 - o.y.toNat)
  let tile := if h = 16 then 2 * (o.tile.toNat / 2) + row / 8 else o.tile.toNat
  let col := flipped (o.attrs.getLsbD 5) 7 (x + 8 - o.x.toNat)
  let i := (if s.cart.cgbMode then 8192 * (o.attrs.getLsbD 3).toNat else 0) + 16 * tile + 2 * (row % 8)
  patternIdx (s.mem.vram.read i) (s.mem.vram.read (i + 1)) col

/-- The behind-background attribute, which CGB mode ignores while LCDC bit 0 is 0 (R440, R449). -/
def spriteBehind (s : State) (o : Sprite) : Bool :=
  o.attrs.getLsbD 7 && !(s.cart.cgbMode && !s.ppu.lcdc.getLsbD 0)

/-- One sprite at column `x` (R440): columns `X - 8` to `X - 1`, index 0 transparent. -/
def drawSprite (s : State) (ly x : Nat) (c : Column) (o : Sprite) : Column :=
  if o.x.toNat ≤ x + 8 ∧ x < o.x.toNat then
    let idx := s.spriteIdx ly x o
    if idx = 0#2 then c
    else if s.spriteBehind o then
      if c.bgIdx ≠ 0#2 then c else c.put .spriteBehind (s.objColour idx o.attrs)
    else c.put .spriteAbove (s.objColour idx o.attrs)
  else c

/-! ### Composing a line (R429) -/

/-- Column `x` of line `ly`, given the line's sprites. -/
def renderColumn (s : State) (sprites : List Sprite) (ly x : Nat) : Column :=
  let c0 : Column := { pixel := blankPixel s.cart.cgbMode, tag := .clear, bgIdx := 0#2 }
  let bgVisible := s.cart.cgbMode || s.ppu.lcdc.getLsbD 0
  let c1 := if bgVisible then s.drawBackground ly x c0 else c0
  let c2 := if bgVisible && s.ppu.lcdc.getLsbD 5 then s.drawWindow ly x c1 else c1
  if s.ppu.lcdc.getLsbD 1 then sprites.foldl (s.drawSprite ly x) c2 else c2

/-- The columns of a line. -/
def renderLine (s : State) (ly : Nat) : List Column :=
  (List.range screenWidth).map (s.renderColumn (s.lineSprites ly) ly)

/-- `RenderScanline(ly)` (R429). -/
def renderScanline (s : State) (ly : Nat) : State :=
  let columns := s.renderLine ly
  { s with ppu := { s.ppu with
      raster := s.ppu.raster.set ly (columns.map Column.pixel)
      tag := columns.map Column.tag
      bgIdx := columns.map Column.bgIdx } }

/-! ### Scanline completion (R421, R422, R425) -/

/-- Raises `k` if `cond` holds. -/
def raiseIf (s : State) (cond : Bool) (k : Fin 5) : State := if cond then s.raise k else s

/-- `HBlankEvent()` (R422); STAT bit 3 is bit 0 of `stat_sel`. -/
def hblankEvent (s : State) : State :=
  let t := s.raiseIf (s.ppu.statSel.getLsbD 0) 1
  if t.cart.cgbMode && t.hdma.active then t.hblankChunk else t

/-- `LY <- (LY + 1) mod 154`. -/
def nextLine (s : State) : State :=
  { s with ppu := { s.ppu with ly := BitVec.ofNat 8 ((s.ppu.ly.toNat + 1) % linesPerFrame) } }

/-- The entry into V-Blank (R421, R470): the frame is published, VBlank if the display is on, STAT bit 4. -/
def enterVBlank (s : State) : State :=
  let t := { s with ppu := { s.ppu with published := s.ppu.raster } }
  (t.raiseIf (t.ppu.lcdc.getLsbD 7) 0).raiseIf (t.ppu.statSel.getLsbD 1) 1

/-- The coincidence bit, STAT bit 6, and STAT bit 5 for a visible line (R421). -/
def updateStat (s : State) : State :=
  let t := { s with ppu := { s.ppu with statCoinc := s.ppu.ly == s.ppu.lyc } }
  (t.raiseIf (t.ppu.statCoinc && t.ppu.statSel.getLsbD 3) 1).raiseIf
    (decide (t.ppu.ly.toNat < visibleLines) && t.ppu.statSel.getLsbD 2) 1

/-- One pass of the loop of R421. -/
def completeLine (s : State) : State :=
  let s := { s with ppu := { s.ppu with acc := s.ppu.acc - lineCycles } }
  let s := if s.ppu.ly.toNat < visibleLines then s.hblankEvent else s
  let s := s.nextLine
  let s := if s.ppu.ly.toNat < visibleLines ∧ s.ppu.lcdc.getLsbD 7 = true then s.renderScanline s.ppu.ly.toNat else s
  let s := if s.ppu.ly.toNat = visibleLines then s.enterVBlank else s
  s.updateStat

/-- `n` scanlines complete one after another. -/
def completeLines : Nat → State → State
  | 0, s => s
  | n + 1, s => completeLines n s.completeLine

/-- `PpuTick(cyc)` (R421). -/
def ppuTick (s : State) (cyc : Nat) : State :=
  let total := s.ppu.acc + cyc
  completeLines (total / lineCycles) { s with ppu := { s.ppu with acc := total } }

end State

end Sys2Proof.Machine
end

