-- ==== Sys2Proof/Machine/Timer.lean ====
section
/-! DEFINITION. The timer's part of a step (60_exceptions.md R390). A `while` loop that takes a fixed amount from an
accumulator is written as division with remainder, its body repeated as often as the quotient says (log entry 13). -/

namespace Sys2Proof.Machine

namespace State

/-- DIV: one increment for every `DIV_PERIOD_CYCLES` accumulated (R390). -/
def divTick (s : State) (cyc : Nat) : State :=
  let total := s.timer.divSub + cyc
  { s with timer := { s.timer with
      div := s.timer.div + BitVec.ofNat 8 (total / s.config.divPeriod)
      divSub := total % s.config.divPeriod } }

/-- One TIMA increment: an overflow reloads TMA and raises the timer trigger (R390). -/
def timaIncrement (s : State) : State :=
  if s.timer.tima = 0xFF#8 then State.raise { s with timer := { s.timer with tima := s.timer.tma } } 2
  else { s with timer := { s.timer with tima := s.timer.tima + 1#8 } }

/-- `n` increments. -/
def timaIncrements : Nat → State → State
  | 0, s => s
  | n + 1, s => timaIncrements n s.timaIncrement

/-- TIMA, when TAC enables it; otherwise its sub-counter is frozen (R390). -/
def timaTick (s : State) (cyc : Nat) : State :=
  if s.timer.tac.getLsbD 2 then
    let total := s.timer.timaSub + cyc
    let period := timaPeriod (s.timer.tac.extractLsb' 0 2)
    timaIncrements (total / period) { s with timer := { s.timer with timaSub := total % period } }
  else s

/-- `TimerTick(cyc)` (R390). -/
def timerTick (s : State) (cyc : Nat) : State := (s.divTick cyc).timaTick cyc

end State

end Sys2Proof.Machine
end

