-- ==== Sys2Proof/Machine/CpuStep.lean ====
section
/-! DEFINITION. The parts of a step: fetching an instruction, what `CpuStep` does around executing it (60_exceptions.md
R373), and what follows it in lock-step (R370); placing an instruction where the next step fetches it. -/

namespace Sys2Proof.Machine

/-- Whether the instruction is `DI`, whose step skips the delayed enable (R373). -/
def isDi : Instr → Bool
  | .di => true
  | _ => false

/-- Changes the next state of a result. -/
def mapNext (g : State → State) : Result → Result
  | .next s => .next (g s)
  | .fault r => .fault r
  | .refused r => .refused r

namespace State

/-! ### Fetch -/

/-- The instruction at PC: every fetched byte is a plain read (R12, 20_memory.md R106), each at the address after the
last one modulo 65536 (30_encoding.md R170). Reads have no side effects (20_memory.md R103), so three bytes are read and
the ones the instruction does not have are ignored (log entry 6). -/
def fetched (s : State) : Instr :=
  decodeBytes (s.read s.cpu.pc) (s.read (s.cpu.pc + 1#16)) (s.read (s.cpu.pc + 2#16))

/-- How many bytes the instruction at PC has. -/
def fetchedLength (s : State) : Nat := opLength (s.read s.cpu.pc)

/-! ### CpuStep (R373) -/

/-- The wake test: any trigger bit, enabled or not. -/
def wake (s : State) : State :=
  if s.cpu.halted && s.irq.flags != 0#5 then s.onCpu fun c => { c with halted := false } else s

/-- Before the instruction: `ime_pending <- 0`, and PC passes the bytes that are fetched. -/
def beginInstr (s : State) (length : Nat) : State :=
  s.onCpu fun c => { c with pc := c.pc + BitVec.ofNat 16 length, imePending := false }

/-- After the instruction: `p` is the `ime_pending` from before it. A faulting step is abandoned and leaves `ime_pending`
as it was (R355, R372); otherwise the delayed enable takes effect, unless the instruction was `DI`. -/
def endInstr (i : Instr) (p : Bool) (t : State) : State :=
  if t.cpu.faulted.isSome then t.onCpu fun c => { c with imePending := p }
  else if p && !isDi i then t.onCpu fun c => { c with ime := true }
  else t

/-- Executes instruction `i` of `length` bytes at PC. -/
def runInstr (s : State) (i : Instr) (length : Nat) : Result :=
  mapNext (endInstr i s.cpu.imePending) (exec i (s.beginInstr length))

/-- `CpuStep()`. -/
def cpuStep (s : State) : Result :=
  let s := s.wake
  if s.cpu.halted then .next (s.report haltedCycles) else s.runInstr s.fetched s.fetchedLength

/-! ### The rest of the step (R370, R371) -/

/-- Parts (2) to (6): the carried cycles join the count, the timer and the PPU advance by the sum, the interrupt check
runs, and the sum is what the step returns. -/
def lockstep (s : State) : State :=
  let cyc := s.carryCycles + s.cycles
  let t := (({ s with carryCycles := 0 }.timerTick cyc).ppuTick cyc).interruptCheck
  { t with cycles := cyc }

/-- A faulting step ends with its CPU part (R370, R372). -/
def afterCpu (t : State) : State := if t.cpu.faulted.isSome then t else t.lockstep

/-- A step of a machine that is not Faulted (R370). -/
def stepRunning (s : State) : Result := mapNext afterCpu s.cpuStep

/-! ### Placing an instruction (log entry 9) -/

/-- Whether a place is a whole byte of some memory. -/
def storable : Place → Bool
  | .rom _ | .vram _ | .eram _ | .wram _ | .oam _ | .hram _ => true
  | .eramNibble _ | .rtc _ | .io _ | .ie | .void => false

/-- Puts a byte into the memory behind a place. -/
def placeByte (s : State) (b : Byte) : Place → State
  | .rom i => { s with cart := { s.cart with rom := s.cart.rom.write i b } }
  | .vram i => s.setVram i b
  | .eram i => { s with mbc := { s.mbc with eram := s.mbc.eram.write i b } }
  | .wram i => { s with mem := { s.mem with wram := s.mem.wram.write i b } }
  | .oam i => s.setOam i b
  | .hram i => { s with mem := { s.mem with hram := s.mem.hram.write i b } }
  | .eramNibble _ | .rtc _ | .io _ | .ie | .void => s

/-- Puts three bytes at `addr`. -/
def placeAt (s : State) (addr : Word) (b : Byte × Byte × Byte) : State :=
  let t := s.placeByte b.1 (s.route addr)
  let t := t.placeByte b.2.1 (s.route (addr + 1#16))
  t.placeByte b.2.2 (s.route (addr + 2#16))

/-- Puts three bytes at PC, or, where PC does not lead to three bytes of memory, at 0xC000 with PC there; the machine is
neither halted nor Faulted, so that the next step fetches them. -/
def placeProgram (s : State) (b : Byte × Byte × Byte) : State :=
  let pc := s.cpu.pc
  let ok := storable (s.route pc) && storable (s.route (pc + 1#16)) && storable (s.route (pc + 2#16))
  let start := if ok then pc else 0xC000#16
  (s.placeAt start b).onCpu fun c => { c with pc := start, halted := false, faulted := none }

end State

end Sys2Proof.Machine
end

