-- ==== Sys2Proof/Machine/Step.lean ====
section
/-! DEFINITION. One machine step (60_exceptions.md R370, R372), and a state in which the next step runs a given table word. -/

namespace Sys2Proof.Machine

/-- `step()`. From a Faulted state there is no step (R372). -/
def step (s : State) : Host.Outcome State Fault Refusal :=
  match s.cpu.faulted with
  | some r => .fault (.illegalInstruction r.opcode r.address)
  | none => s.stepRunning

/-- The state with a word of spec/opcode_table.json stored where `step` fetches its next instruction (log entry 9). -/
def State.withFetchWord (s : State) (nbits w : Nat) : State := s.placeProgram (tableBytes nbits w)

end Sys2Proof.Machine
end

