-- ==== Sys2Proof/Machine/Cartridge.lean ====
section
/-! DEFINITION. Loading a cartridge (21_cartridge_mbc.md R120 to R127): the header's tables, the derived configuration, the
load errors, and the metadata that no rule of the hardware reads. -/

namespace Sys2Proof.Machine

/-- What `loadCartridge` fails with (R127). -/
inductive LoadError where
  /-- the image is shorter than 0x150 bytes -/
  | noHeader
  | unsupportedMapper (code : Byte)
  | badRomSize (code : Byte)
  | badRamSize (code : Byte)
  /-- the image is not as long as the header says -/
  | wrongLength (length : Nat)
  deriving DecidableEq, Repr

/-- A row of the mapper-type table (R122). -/
structure Mapper where
  kind       : MbcKind
  hasRam     : Bool
  hasBattery : Bool
  hasRtc     : Bool
  deriving DecidableEq, Repr

/-- The mapper-type table (R122); MBC2's RAM is built in. -/
def mapperOf (code : Byte) : Option Mapper :=
  match code.toNat with
  | 0x00 => some { kind := .none, hasRam := false, hasBattery := false, hasRtc := false }
  | 0x01 => some { kind := .mbc1, hasRam := false, hasBattery := false, hasRtc := false }
  | 0x02 => some { kind := .mbc1, hasRam := true, hasBattery := false, hasRtc := false }
  | 0x03 => some { kind := .mbc1, hasRam := true, hasBattery := true, hasRtc := false }
  | 0x05 => some { kind := .mbc2, hasRam := true, hasBattery := false, hasRtc := false }
  | 0x06 => some { kind := .mbc2, hasRam := true, hasBattery := true, hasRtc := false }
  | 0x0F => some { kind := .mbc3, hasRam := false, hasBattery := true, hasRtc := true }
  | 0x10 => some { kind := .mbc3, hasRam := true, hasBattery := true, hasRtc := true }
  | 0x11 => some { kind := .mbc3, hasRam := false, hasBattery := false, hasRtc := false }
  | 0x12 => some { kind := .mbc3, hasRam := true, hasBattery := false, hasRtc := false }
  | 0x13 => some { kind := .mbc3, hasRam := true, hasBattery := true, hasRtc := false }
  | 0x19 => some { kind := .mbc5, hasRam := false, hasBattery := false, hasRtc := false }
  | 0x1A => some { kind := .mbc5, hasRam := true, hasBattery := false, hasRtc := false }
  | 0x1B => some { kind := .mbc5, hasRam := true, hasBattery := true, hasRtc := false }
  | 0x1C => some { kind := .mbc5, hasRam := false, hasBattery := false, hasRtc := false }
  | 0x1D => some { kind := .mbc5, hasRam := true, hasBattery := false, hasRtc := false }
  | 0x1E => some { kind := .mbc5, hasRam := true, hasBattery := true, hasRtc := false }
  | _ => none

/-- The ROM-size table (R123). -/
def romBanksOf (code : Byte) : Option Nat :=
  match code.toNat with
  | 0x52 => some 72
  | 0x53 => some 80
  | 0x54 => some 96
  | n => if n ≤ 8 then some (2 ^ (n + 1)) else none

/-- The RAM-size table (R124). -/
def ramBanksOf (code : Byte) : Option Nat :=
  match code.toNat with
  | 0 => some 0
  | 1 => some 1
  | 2 => some 1
  | 3 => some 4
  | 4 => some 16
  | _ => none

/-- `loadCartridge(bytes)` (R121, R127). -/
def loadCartridge (image : List Byte) : Except LoadError Cartridge :=
  if image.length < 0x150 then .error .noHeader
  else
    let rom := Memory.ofBytes 0 image
    match mapperOf (rom.read 0x147), romBanksOf (rom.read 0x148), ramBanksOf (rom.read 0x149) with
    | none, _, _ => .error (.unsupportedMapper (rom.read 0x147))
    | _, none, _ => .error (.badRomSize (rom.read 0x148))
    | _, _, none => .error (.badRamSize (rom.read 0x149))
    | some m, some romBanks, some ramBanks =>
      if image.length = romBankBytes * romBanks then
        .ok
          { rom := rom
            cgbMode := rom.read 0x143 != 0x00#8
            kind := m.kind, hasRam := m.hasRam, hasBattery := m.hasBattery, hasRtc := m.hasRtc
            romBanks := romBanks
            ramBanks := if m.hasRam then ramBanks else 0 }
      else .error (.wrongLength image.length)

namespace Cartridge

/-- The size of the external RAM, and of the save blob (R125). -/
def eramBytes (c : Cartridge) : Nat :=
  match c.kind with
  | .mbc2 => 512
  | .none => 0
  | .mbc1 | .mbc3 | .mbc5 => ramBankBytes * c.ramBanks

/-- The title (R120): 11 bytes with the colour flag, 16 without, less the NUL bytes that pad it. -/
def title (c : Cartridge) : List Byte :=
  (c.rom.toBytes 0x134 (if c.cgbMode then 11 else 16)).takeWhile (· != 0x00#8)

/-- The SGB flag (R120). -/
def sgbSupported (c : Cartridge) : Bool := c.rom.read 0x146 == 0x03#8

/-- The region (R120). -/
def japanese (c : Cartridge) : Bool := c.rom.read 0x14A == 0x00#8

end Cartridge

end Sys2Proof.Machine
end

