-- ==== Sys2Proof/Machine/HostMoves.lean ====
section
/-! DEFINITION. What the host may do between two steps (60_exceptions.md R374, R396 to R402; 21_cartridge_mbc.md R152, R160
to R162; 62_ppu.md R470; 70_reset_and_hazards.md R480). No step does any of it (log entry 11). -/

namespace Sys2Proof.Machine

/-- The eight buttons (R34). -/
inductive Button where
  | right | left | up | down | a | b | select | start
  deriving DecidableEq, Repr

/-- Whether a button is pressed. -/
def Buttons.get (p : Buttons) : Button → Bool
  | .right => p.right
  | .left => p.left
  | .up => p.up
  | .down => p.down
  | .a => p.a
  | .b => p.b
  | .select => p.select
  | .start => p.start

/-- Presses or releases a button. -/
def Buttons.set (p : Buttons) (k : Button) (pressed : Bool) : Buttons :=
  match k with
  | .right => { p with right := pressed }
  | .left => { p with left := pressed }
  | .up => { p with up := pressed }
  | .down => { p with down := pressed }
  | .a => { p with a := pressed }
  | .b => { p with b := pressed }
  | .select => { p with select := pressed }
  | .start => { p with start := pressed }

/-- The registers the host may poke (R402). -/
inductive CpuReg where
  | byte (r : R8)
  | f
  | sp
  | pc
  deriving DecidableEq, Repr

/-- Why a host move does not apply. -/
inductive MoveError where
  /-- the machine is Faulted, and the move is not a read or a reset (R372) -/
  | faulted
  /-- the cartridge has no battery (R161) -/
  | noBattery
  deriving DecidableEq, Repr

/-- The host moves that change the machine. -/
inductive HostMove where
  | setButton (k : Button) (pressed : Bool)
  /-- `none`: the save file is missing (R162) -/
  | loadRam (blob : Option (List Byte))
  | setRtc (clock : Rtc)
  | pokeRegister (r : CpuReg) (v : Word)
  | pokeMemory (addr : Word) (v : Byte)
  | reset
  deriving DecidableEq, Repr

namespace State

/-- `setButton` (R398): a press of a released button raises the joypad trigger. -/
def setButton (s : State) (k : Button) (pressed : Bool) : State :=
  let t := { s with joypad := { s.joypad with buttons := s.joypad.buttons.set k pressed } }
  if pressed && !s.joypad.buttons.get k then t.raise 4 else t

/-- `getFrameBuffer()` (R470). -/
def getFrameBuffer (s : State) : Frame := s.ppu.published

/-- `saveRam()` (R160, R161). -/
def saveRam (s : State) : Except MoveError (List Byte) :=
  if s.cart.hasBattery then .ok (s.mbc.eram.toBytes 0 s.cart.eramBytes) else .error .noBattery

/-- The external RAM a save blob gives (R125, R160, R162): one of another size, or none, gives zeros. -/
def eramOf (c : Cartridge) (blob : Option (List Byte)) : Memory :=
  match blob with
  | none => []
  | some bytes =>
    if bytes.length = c.eramBytes then
      match c.kind with
      | .mbc2 => Memory.ofBytes 0 (bytes.map (· &&& 0x0F#8))
      | .none | .mbc1 | .mbc3 | .mbc5 => Memory.ofBytes 0 bytes
    else []

/-- `loadRam(bytes)` (R160 to R162). -/
def loadRam (s : State) (blob : Option (List Byte)) : Except MoveError State :=
  if s.cart.hasBattery then .ok { s with mbc := { s.mbc with eram := eramOf s.cart blob } } else .error .noBattery

/-- Whether `loadRam` reports the recoverable error class (c) beside the empty save data it leaves: no blob, or one of another
size (R162). -/
def loadRamDegrades (s : State) (blob : Option (List Byte)) : Bool :=
  match blob with
  | none => true
  | some bytes => bytes.length != s.cart.eramBytes

/-- `setRtc` (R152). -/
def setRtc (s : State) (clock : Rtc) : State := { s with mbc := { s.mbc with rtc := clock } }

/-- A register poke (R402): an 8-bit register takes the low byte, F the byte with bits 3:0 cleared; `(HL)` is no register
and its poke is one of memory. -/
def pokeRegister (s : State) (r : CpuReg) (v : Word) : State :=
  match r with
  | .byte r => s.set8 r v.lo
  | .f => s.onCpu fun c => c.setF v.lo
  | .sp => s.onCpu fun c => { c with sp := v }
  | .pc => s.onCpu fun c => { c with pc := v }

/-- `reset()` (R480): everything but the cartridge, the parameters and the external RAM at its reset value. -/
def resetMove (s : State) : State := powerOn s.config s.cart s.mbc.eram

/-- A move on a machine that is not Faulted. -/
def applyMove (s : State) : HostMove → Except MoveError State
  | .setButton k pressed => .ok (s.setButton k pressed)
  | .loadRam blob => s.loadRam blob
  | .setRtc clock => .ok (s.setRtc clock)
  | .pokeRegister r v => .ok (s.pokeRegister r v)
  | .pokeMemory addr v => .ok (s.write addr v)
  | .reset => .ok s.resetMove

/-- A host move (R372, R374): on a Faulted machine `reset()` is the only one that changes it. DESIGN CHOICE (log entry 15): on
a Faulted machine with a cartridge without battery `loadRam` is answered `faulted`, not `noBattery` (R161 and R372 are not
ordered); neither changes the machine. -/
def hostMove (s : State) (m : HostMove) : Except MoveError State :=
  match s.cpu.faulted, m with
  | some _, .reset => .ok s.resetMove
  | some _, _ => .error .faulted
  | none, m => s.applyMove m

end State

/-- Power-on (R480): `loadCartridge`, optionally `loadRam`, then `reset()`. A cartridge without a battery has no blob. -/
def powerUp (config : Config) (image : List Byte) (blob : Option (List Byte)) : Except LoadError State :=
  match loadCartridge image with
  | .error e => .error e
  | .ok c => .ok (State.powerOn config c (if c.hasBattery then State.eramOf c blob else []))

end Sys2Proof.Machine
end

