-- ==== Sys2Proof/Safety.lean ====
section
/-! DEFINITION. What a safe run is, and the invariant of the machine's states, in the terms the statements use. -/

namespace Sys2Proof.Machine

/-- `n` steps one after another. -/
def steps : Nat → State → Result
  | 0, s => .next s
  | n + 1, s =>
    match step s with
    | .next t => steps n t
    | .fault r => .fault r
    | .refused r => .refused r

/-- `t` is reached from `s` by `n` steps. -/
abbrev Reaches (n : Nat) (s t : State) : Prop := steps n s = .next t

/-- A safe run of `n` steps: no step of it executes an illegal opcode. It is the only thing that can go wrong in this
machine (00_scope.md R16). -/
def SafeRun (n : Nat) (s : State) : Prop := ∃ t, Reaches n s t ∧ t.cpu.faulted = none

namespace State

/-- `F[3:0] = 0` always (10_state.md R21). -/
abbrev FlagsOk (s : State) : Prop := s.cpu.f &&& 0x0F#8 = 0x00#8

/-- Every array of bytes is in its canonical form (Machine/State.lean). -/
structure MemoryOk (s : State) : Prop where
  rom    : s.cart.rom.wf
  vram   : s.mem.vram.wf
  wram   : s.mem.wram.wf
  oam    : s.mem.oam.wf
  hram   : s.mem.hram.wf
  io     : s.mem.io.wf
  bgPal  : s.ppu.bgPal.cells.wf
  objPal : s.ppu.objPal.cells.wf
  eram   : s.mbc.eram.wf

/-- The widths of the PPU's counters (10_state.md R38): LY names a line, the accumulator is inside one. -/
abbrev PpuOk (s : State) : Prop := s.ppu.ly.toNat < linesPerFrame ∧ s.ppu.acc < lineCycles

/-- HDMA's addresses (10_state.md R45): the source and the destination multiples of 16, the destination in 8000-9FF0. -/
abbrev HdmaOk (s : State) : Prop :=
  s.hdma.src.toNat % 16 = 0 ∧ s.hdma.dst.toNat % 16 = 0 ∧ 0x8000 ≤ s.hdma.dst.toNat ∧ s.hdma.dst.toNat ≤ 0x9FF0

/-- What R372 leaves of a Faulted machine's wait. -/
abbrev FaultOk (s : State) : Prop := s.cpu.faulted.isSome = true → s.cpu.halted = false

/-- The invariant of every state a run reaches. -/
structure Inv (s : State) : Prop where
  flags  : s.FlagsOk
  memory : s.MemoryOk
  ppu    : s.PpuOk
  hdma   : s.HdmaOk
  fault  : s.FaultOk

end State

/-! ### Terms the statements use -/

/-- The bytes are those of instruction `i`, whatever follows them. -/
def DecodesAs (bytes : List Byte) (i : Instr) : Prop := ∀ rest, decode (bytes ++ rest) = .ok (i, rest)

/-- The four flags of F (R21), each with the condition under which it is set; bits 3:0 are 0. -/
structure FlagsAre (f : Byte) (z n h c : Prop) : Prop where
  z   : zf f = true ↔ z
  n   : nf f = true ↔ n
  h   : hf f = true ↔ h
  c   : cf f = true ↔ c
  low : f &&& 0x0F#8 = 0x00#8

/-- `t` is `s` but for A, F and the count. -/
def ChangesAF (s t : State) (cycles : Nat) : Prop :=
  t = { s with cpu := { s.cpu with a := t.cpu.a, f := t.cpu.f }, cycles := cycles }

/-- `t` is `s` but for F and the count. -/
def ChangesF (s t : State) (cycles : Nat) : Prop :=
  t = { s with cpu := { s.cpu with f := t.cpu.f }, cycles := cycles }

/-- A place whose write changes what no other place reads: not a bank controller's control range (R65), and not a
register that selects a bank, a palette byte or a DMA (R80). -/
def Place.quiet : Place → Bool
  | .rom _ => false
  | .io r =>
    match r with
    | .dma | .vbk | .hdma5 | .bcps | .bcpd | .ocps | .ocpd | .svbk => false
    | _ => true
  | _ => true

/-- A whole byte of a memory that a store can change (R62). -/
def Place.isCell : Place → Bool
  | .vram _ | .eram _ | .wram _ | .oam _ | .hram _ => true
  | _ => false

/-- Everything but the CPU, the memories and the count is the same: each device register, bank register, DMA and HDMA
register, the PPU, the cartridge, the parameters and the carried cycles. -/
structure SameDevices (s t : State) : Prop where
  irq     : t.irq = s.irq
  timer   : t.timer = s.timer
  joypad  : t.joypad = s.joypad
  serial  : t.serial = s.serial
  ppu     : t.ppu = s.ppu
  hdma    : t.hdma = s.hdma
  mbc     : { t.mbc with eram := s.mbc.eram } = s.mbc
  vbk     : t.mem.vbk = s.mem.vbk
  svbk    : t.mem.svbk = s.mem.svbk
  cart    : t.cart = s.cart
  config  : t.config = s.config
  carry   : t.carryCycles = s.carryCycles

/-- What a store of `v` to address `a` leaves (R62): no parameter and no byte of ROM changes; at a quiet place, every
address that leads to another place reads as before; at a memory cell, no device register changes and the address reads
back what was stored. -/
structure StoresAt (s t : State) (a : Word) (v : Byte) : Prop where
  cart    : t.cart = s.cart
  config  : t.config = s.config
  others  : (s.route a).quiet = true → ∀ b, s.route b ≠ s.route a → t.read b = s.read b
  devices : (s.route a).isCell = true → SameDevices s t
  value   : (s.route a).isCell = true → s.MemoryOk → t.read a = v

/-- The same of two stores, the first of `v` to `a`, the second of `w` to `b`. -/
structure StoresTwo (s t : State) (a : Word) (v : Byte) (b : Word) (w : Byte) : Prop where
  cart    : t.cart = s.cart
  config  : t.config = s.config
  others  : (s.route a).quiet = true → (s.route b).quiet = true →
    ∀ k, s.route k ≠ s.route a → s.route k ≠ s.route b → t.read k = s.read k
  devices : (s.route a).isCell = true → (s.route b).isCell = true → SameDevices s t
  value   : (s.route a).isCell = true → (s.route b).isCell = true → s.MemoryOk → t.read a = v ∧ t.read b = w

/-- A memory after a store of `v` to its cell `i`. -/
def CellStores (m n : Memory) (i : Nat) (v : Byte) : Prop := m.wf → ∀ j, n.read j = if j = i then v else m.read j

/-- `t` is `s` but for cell `i` of the external RAM, which holds `w`. -/
structure EramStores (s t : State) (i : Nat) (w : Byte) : Prop where
  frame : t = { s with mbc := { s.mbc with eram := t.mbc.eram } }
  cells : s.MemoryOk → ∀ j, t.mbc.eram.read j = if j = i then w else s.mbc.eram.read j

/-- A register at `a` that a write stores whole (R80): a read gives `old`, a write of `v` leaves `t` and reads back `v`. -/
structure PlainRegister (s : State) (a : Word) (v old : Byte) (t : State) : Prop where
  reads : s.read a = old
  write : s.write a v = t
  back  : (s.write a v).read a = v

/-- The addresses of FF00-FF7F that R80 gives a row of their own; every other one is storage (R93). -/
def namedRegisters : List Word :=
  [0xFF00#16, 0xFF01#16, 0xFF02#16, 0xFF04#16, 0xFF05#16, 0xFF06#16, 0xFF07#16, 0xFF0F#16, 0xFF40#16, 0xFF41#16, 0xFF42#16,
    0xFF43#16, 0xFF44#16, 0xFF45#16, 0xFF46#16, 0xFF47#16] ++
  [0xFF48#16, 0xFF49#16, 0xFF4A#16, 0xFF4B#16, 0xFF4F#16, 0xFF51#16, 0xFF52#16, 0xFF53#16, 0xFF54#16, 0xFF55#16, 0xFF68#16,
    0xFF69#16, 0xFF6A#16, 0xFF6B#16, 0xFF70#16]

/-- What a store through a palette's data port leaves of the port (R43): the byte is in the cell at the index, which then
steps modulo 64 if it auto-increments. -/
structure PaletteStores (p q : PalettePort) (v : Byte) : Prop where
  autoInc : q.autoInc = p.autoInc
  index   : q.index.toNat = (p.index.toNat + p.autoInc.toNat) % 64
  cells   : p.cells.wf → ∀ i, q.cells.read i = if i = p.index.toNat then v else p.cells.read i

/-- What P1 reads (R396): bits 7:6 set, the select bits, and bit 0 to 3 clear where a pressed button of a selected group
stands there. -/
structure P1Reads (j : Joypad) (r : Byte) : Prop where
  high   : r.toNat / 64 = 3
  select : r.toNat / 16 % 4 = j.select.toNat
  bit0   : r.getLsbD 0 = false ↔
    (j.select.getLsbD 0 = false ∧ j.buttons.right = true) ∨ (j.select.getLsbD 1 = false ∧ j.buttons.a = true)
  bit1   : r.getLsbD 1 = false ↔
    (j.select.getLsbD 0 = false ∧ j.buttons.left = true) ∨ (j.select.getLsbD 1 = false ∧ j.buttons.b = true)
  bit2   : r.getLsbD 2 = false ↔
    (j.select.getLsbD 0 = false ∧ j.buttons.up = true) ∨ (j.select.getLsbD 1 = false ∧ j.buttons.select = true)
  bit3   : r.getLsbD 3 = false ↔
    (j.select.getLsbD 0 = false ∧ j.buttons.down = true) ∨ (j.select.getLsbD 1 = false ∧ j.buttons.start = true)

/-- STAT's mode (R424). -/
def modeOf (ly acc : Nat) : Nat := if 144 ≤ ly then 1 else if acc < 80 then 2 else if acc < 252 then 3 else 0

/-- The colour index of `TilePixel(map_base, mx, my)` and the tile's attributes (R430): the map's cell, the row and the bit
under the flips, the two bytes of the pattern. -/
structure TileIs (s : State) (base mx my : Nat) (idx : BitVec 2) (attrs : Byte) : Prop where
  attrsAre : attrs = if s.cart.cgbMode then s.mem.vram.read (8192 + (base + my / 8 * 32 + mx / 8)) else 0x00#8
  idxIs    :
    let tile := s.mem.vram.read (base + my / 8 * 32 + mx / 8)
    let row := if attrs.getLsbD 6 then 7 - my % 8 else my % 8
    let bit := if attrs.getLsbD 5 then mx % 8 else 7 - mx % 8
    let start : Int := if s.ppu.lcdc.getLsbD 4 then 16 * tile.toNat else 0x1000 + 16 * tile.toInt
    let cell := (if attrs.getLsbD 3 then 8192 else 0) + start.toNat + 2 * row
    idx.toNat = 2 * ((s.mem.vram.read (cell + 1)).getLsbD bit).toNat + ((s.mem.vram.read cell).getLsbD bit).toNat

/-- Whether sprite `o` lies on line `ly` (R440). -/
abbrev OnLine (s : State) (ly : Nat) (o : Sprite) : Prop :=
  o.y.toNat ≤ ly + 16 ∧ ly + 16 < o.y.toNat + (if s.ppu.lcdc.getLsbD 2 then 16 else 8)

/-- A sprite's colour index at a column it covers (R440). -/
def SpriteIdxIs (s : State) (ly x : Nat) (o : Sprite) (idx : BitVec 2) : Prop :=
  let h := if s.ppu.lcdc.getLsbD 2 then 16 else 8
  let row := if o.attrs.getLsbD 6 then h - 1 - (ly + 16 - o.y.toNat) else ly + 16 - o.y.toNat
  let tile := if s.ppu.lcdc.getLsbD 2 then o.tile.toNat / 2 * 2 + row / 8 else o.tile.toNat
  let bit := if o.attrs.getLsbD 5 then x + 8 - o.x.toNat else 7 - (x + 8 - o.x.toNat)
  let cell := (if s.cart.cgbMode = true ∧ o.attrs.getLsbD 3 = true then 8192 else 0) + 16 * tile + 2 * (row % 8)
  idx.toNat = 2 * ((s.mem.vram.read (cell + 1)).getLsbD bit).toNat + ((s.mem.vram.read cell).getLsbD bit).toNat

/-- The pixel of colour index `idx`: a shade of a DMG palette register (R432), or colour `idx` of palette `p` of a CGB palette
memory, five bits to eight (R450). -/
structure ColourIs (cgb : Bool) (dmg : Byte) (port : PalettePort) (p : BitVec 3) (idx : BitVec 2) (px : Pixel) : Prop where
  shade : cgb = false → ∃ v : BitVec 2, px = .shade v ∧ v.toNat = dmg.toNat / 4 ^ idx.toNat % 4
  rgb   : cgb = true → ∃ r g b : Byte, px = .rgb r g b ∧
    (let w := (port.cells.read (8 * p.toNat + 2 * idx.toNat)).toNat +
       256 * (port.cells.read (8 * p.toNat + 2 * idx.toNat + 1)).toNat
     r.toNat = w % 32 * 8 + w % 32 / 4 ∧ g.toNat = w / 32 % 32 * 8 + w / 32 % 32 / 4 ∧
     b.toNat = w / 1024 % 32 * 8 + w / 1024 % 32 / 4)

/-- A column of line `ly` without sprites (R429, R432, R434): blank, of the background, or of the window. -/
structure TilesDrawn (s : State) (ly x : Nat) (c : Column) : Prop where
  blank : s.cart.cgbMode = false → s.ppu.lcdc.getLsbD 0 = false →
    c = { pixel := .shade 0#2, tag := .clear, bgIdx := 0#2 }
  drawn : s.cart.cgbMode = true ∨ s.ppu.lcdc.getLsbD 0 = true →
    ∃ attrs, ColourIs s.cart.cgbMode s.ppu.bgp s.ppu.bgPal (attrs.extractLsb' 0 3) c.bgIdx c.pixel ∧
      (if s.ppu.lcdc.getLsbD 5 = true ∧ s.ppu.wy.toNat ≤ ly ∧ s.ppu.wx.toNat ≤ x + 7 then
        c.tag = .window ∧ TileIs s (if s.ppu.lcdc.getLsbD 6 then 0x1C00 else 0x1800) (x + 7 - s.ppu.wx.toNat)
          (ly - s.ppu.wy.toNat) c.bgIdx attrs
      else
        c.tag = .background ∧ TileIs s (if s.ppu.lcdc.getLsbD 3 then 0x1C00 else 0x1800) ((x + s.ppu.scx.toNat) % 256)
          ((ly + s.ppu.scy.toNat) % 256) c.bgIdx attrs)

/-- Whether sprite `o` is under the background's colours 1 to 3 (R440, R449). -/
def GoesBehind (s : State) (o : Sprite) : Prop :=
  o.attrs.getLsbD 7 = true ∧ (s.cart.cgbMode = true → s.ppu.lcdc.getLsbD 0 = true)

/-- What sprite `o`, of colour index `idx` there, makes of column `x` (R440, R448): where it covers the column, is opaque and
is not hidden, its pixel is put unless the column has a higher tag; otherwise nothing changes. -/
structure SpriteDrawn (s : State) (x : Nat) (o : Sprite) (idx : BitVec 2) (c d : Column) : Prop where
  away   : ¬(o.x.toNat ≤ x + 8 ∧ x < o.x.toNat) ∨ idx = 0#2 ∨ (GoesBehind s o ∧ c.bgIdx ≠ 0#2) → d = c
  above  : o.x.toNat ≤ x + 8 → x < o.x.toNat → idx ≠ 0#2 → ¬GoesBehind s o →
    ∃ px, ColourIs s.cart.cgbMode (if o.attrs.getLsbD 4 then s.ppu.obp1 else s.ppu.obp0) s.ppu.objPal
      (o.attrs.extractLsb' 0 3) idx px ∧ d = { pixel := px, tag := .spriteAbove, bgIdx := c.bgIdx }
  behind : o.x.toNat ≤ x + 8 → x < o.x.toNat → idx ≠ 0#2 → GoesBehind s o → c.bgIdx = 0#2 →
    (c.tag = .spriteAbove → d = c) ∧
    (c.tag ≠ .spriteAbove → ∃ px, ColourIs s.cart.cgbMode (if o.attrs.getLsbD 4 then s.ppu.obp1 else s.ppu.obp0)
      s.ppu.objPal (o.attrs.extractLsb' 0 3) idx px ∧ d = { pixel := px, tag := .spriteBehind, bgIdx := c.bgIdx })

/-- One HDMA chunk in CGB mode (R465): sixteen bytes, each the one read through the address space at the source, into the
VRAM bank of VBK at the destination; both addresses move on and eight cycles are carried. -/
structure ChunkMoves (s t : State) : Prop where
  frame  : t = { s with
    mem := { s.mem with vram := t.mem.vram }
    hdma := { s.hdma with src := t.hdma.src, dst := t.hdma.dst }
    carryCycles := s.carryCycles + 8 }
  src    : t.hdma.src = s.hdma.src + 16#16
  dst    : t.hdma.dst = 0x8000#16 ||| ((s.hdma.dst + 16#16) &&& 0x1FF0#16)
  bytes  : s.cart.cgbMode = true → s.HdmaOk → s.MemoryOk → ∀ j, j < 16 →
    t.mem.vram.read (8192 * s.mem.vbk.toNat + (s.hdma.dst.toNat - 0x8000) + j) =
      s.read (s.hdma.src + BitVec.ofNat 16 j)
  others : ∀ i, (∀ j, j < 16 → i ≠ 8192 * s.mem.vbk.toNat + (s.hdma.dst.toNat - 0x8000) + j) →
    t.mem.vram.read i = s.mem.vram.read i
  keeps  : s.HdmaOk → s.MemoryOk → t.HdmaOk ∧ t.MemoryOk

/-- `n` chunks one after another (R464). -/
def ChunksMove : Nat → State → State → Prop
  | 0, s, t => t = s
  | n + 1, s, t => ∃ u, ChunkMoves s u ∧ ChunksMove n u t

/-- The three operand forms of an accumulator operation (R250): each completes, A and F are all it changes, and `post` says
of the operand and the two states what it leaves. -/
def AluForms (op : AluOp) (post : Byte → State → State → Prop) : Prop :=
  ∀ s : State,
    (∀ r : R8, DecodesAs [BitVec.ofNat 8 (0x80 + 8 * op.code + r.code)] (.aluReg op r) ∧
      ∃ t, exec (.aluReg op r) s = .next t ∧ ChangesAF s t (if r = .atHL then 8 else 4) ∧ post (s.get8 r) s t) ∧
    (∀ n : Byte, DecodesAs [BitVec.ofNat 8 (0xC6 + 8 * op.code), n] (.aluImm op n) ∧
      ∃ t, exec (.aluImm op n) s = .next t ∧ ChangesAF s t 8 ∧ post n s t)

/-- The result `w` and the bit moved out of a CB-space rotate or shift of `v` (R306 to R313). -/
def RotatesTo (op : RotOp) (v carry w out : Nat) : Prop :=
  match op with
  | .rlc => w = 2 * v % 256 + v / 128 ∧ out = v / 128
  | .rrc => w = v / 2 + 128 * (v % 2) ∧ out = v % 2
  | .rl => w = 2 * v % 256 + carry ∧ out = v / 128
  | .rr => w = v / 2 + 128 * carry ∧ out = v % 2
  | .sla => w = 2 * v % 256 ∧ out = v / 128
  | .sra => w = v / 2 + 128 * (v / 128) ∧ out = v % 2
  | .swap => w = v % 16 * 16 + v / 16 ∧ out = 0
  | .srl => w = v / 2 ∧ out = v % 2

/-- What the four conditions test (R340): only Z and C. -/
def CondIs (k : Cond) (f : Byte) : Prop :=
  match k with
  | .nz => f.getLsbD 7 = false
  | .z => f.getLsbD 7 = true
  | .nc => f.getLsbD 4 = false
  | .c => f.getLsbD 4 = true

/-- A call: PC, the address after the instruction, is pushed, and PC is the target; no flag changes. -/
def CallsTo (s t : State) (target : Word) (cycles : Nat) : Prop :=
  t.cpu = { s.cpu with sp := s.cpu.sp - 2#16, pc := target } ∧
  t = { (s.write (s.cpu.sp - 1#16) s.cpu.pc.hi).write (s.cpu.sp - 2#16) s.cpu.pc.lo with
    cpu := t.cpu, cycles := cycles } ∧
  StoresTwo s t (s.cpu.sp - 1#16) s.cpu.pc.hi (s.cpu.sp - 2#16) s.cpu.pc.lo

end Sys2Proof.Machine
end

