-- ==== Sys2Proof/WellFormed.lean ====
section
/-! DEFINITION. Which terms of `Instr` stand for an instruction. Every operand has exactly the width of its type, so the
one check is R356's: 0xCB "is not an instruction by itself", so the row `PREFIX CB` is a term but no instruction. -/

namespace Sys2Proof

/-- The term is the row of the escape byte (46_system.md R356). -/
def Instr.isPrefix : Instr → Bool
  | .prefixCb _ => true
  | _ => false

/-- The check. -/
def Instr.wf (i : Instr) : Bool := !i.isPrefix

end Sys2Proof
end

