-- ==== Sys2Proof/Certificates/Slice0/Obligations.lean ====
section
/-! DEFINITION. The statements. Of the instructions: `exec` gets a state whose PC has passed the instruction, so the PC of
a state before is the address of the next instruction, and an instruction that does not jump leaves it.
Encodings, byte order and cycle counts are the rules' own text; 92_eei_decisions.md (D1 to D3, D5) says that the spec adopts
them from outside its source. Where a clause rests on a narrower decision of the spec, the statement's docstring names it. -/

open Sys2Proof Sys2Proof.Machine

/-! ### Encoding -/

/-- Words written out from the spec's encodings: one or more of every family (R175 to R180, and the examples of the
instruction rules). -/
def Obligations.DecodedWords : Prop :=
  decode [0x00#8] = .ok (.nop, []) ∧
  decode [0x10#8, 0x00#8] = .ok (.stop 0x00#8, []) ∧
  decode [0x41#8] = .ok (.ld_B_C, []) ∧
  decode [0x76#8] = .ok (.halt, []) ∧
  decode [0x3E#8, 0xD3#8] = .ok (.ld_A_n8 0xD3#8, []) ∧
  decode [0x21#8, 0x34#8, 0x12#8] = .ok (.ld_HL_n16 0x1234#16, []) ∧
  decode [0x08#8, 0x00#8, 0xC1#8] = .ok (.ld_atA16_SP 0xC100#16, []) ∧
  decode [0xE0#8, 0x07#8] = .ok (.ldh_atA8_A 0x07#8, []) ∧
  decode [0x2A#8] = .ok (.ld_A_atHLI, []) ∧
  decode [0xF5#8] = .ok (.push_AF, []) ∧
  decode [0x8E#8] = .ok (.adc_A_atHL, []) ∧
  decode [0xFE#8, 0x20#8] = .ok (.cp_A_n8 0x20#8, []) ∧
  decode [0x19#8] = .ok (.add_HL_DE, []) ∧
  decode [0xE8#8, 0xF8#8] = .ok (.add_SP_e8 0xF8#8, []) ∧
  decode [0x35#8] = .ok (.dec_atHL, []) ∧
  decode [0x20#8, 0xFC#8] = .ok (.jr_NZ_e8 0xFC#8, []) ∧
  decode [0xDC#8, 0x34#8, 0x12#8] = .ok (.call_C_a16 0x1234#16, []) ∧
  decode [0xEF#8] = .ok (.rst_28, []) ∧
  decode [0xCB#8, 0x7C#8] = .ok (.bit_7_H, []) ∧
  decode [0xCB#8, 0xD3#8] = .ok (.set_2_E, []) ∧
  decode [0xCB#8, 0xCB#8] = .ok (.set_1_E, []) ∧
  decode [0xDD#8, 0x11#8] = .ok (.illegal_DD, [0x11#8])

/-- No bit of an encoding is dropped: decoding the bytes of a well-formed instruction gives it back, with every operand,
and leaves what follows. -/
def Obligations.EncodeThenDecode : Prop :=
  ∀ (i : Instr) (rest : List Byte), i.wf = true → decode (encode i ++ rest) = .ok (i, rest)

/-- Every word has one meaning: what the decoder takes off a list is a well-formed instruction, and its bytes are the ones
taken. -/
def Obligations.DecodeThenEncode : Prop :=
  ∀ (bytes : List Byte) (i : Instr) (rest : List Byte), decode bytes = .ok (i, rest) →
    i.wf = true ∧ encode i ++ rest = bytes

/-- R356: 0xCB with its second byte is the instruction that byte selects; both have the same next state. That the table's row
of 0xCB alone has a constructor, `prefixCb`, is the model's choice (log entry 7). -/
def Obligations.PrefixSelects : Prop :=
  ∀ (o : Byte) (s : State), DecodesAs [0xCB#8, o] (decodeCb o) ∧
    ∃ t, exec (.prefixCb o) s = .next t ∧ exec (decodeCb o) s = .next t

/-! ### 8-bit loads -/

/-- Writing an 8-bit register changes it alone; writing a pair changes its two halves alone (R11, R20, R22). -/
def Obligations.RegisterFile : Prop :=
  ∀ (s : State) (v : Byte) (w : Word),
    (∀ r : R8, r ≠ .atHL → (s.set8 r v).get8 r = v ∧ (∀ q : R8, q ≠ r → q ≠ .atHL → (s.set8 r v).get8 q = s.get8 q) ∧
      s.set8 r v = { s with cpu := { s.cpu with
        a := (s.set8 r v).cpu.a, b := (s.set8 r v).cpu.b, c := (s.set8 r v).cpu.c, d := (s.set8 r v).cpu.d
        e := (s.set8 r v).cpu.e, h := (s.set8 r v).cpu.h, l := (s.set8 r v).cpu.l } }) ∧
    s.cpu.setRp .bc w = { s.cpu with b := w.hi, c := w.lo } ∧ s.cpu.setRp .de w = { s.cpu with d := w.hi, e := w.lo } ∧
    s.cpu.setRp .hl w = { s.cpu with h := w.hi, l := w.lo } ∧ s.cpu.setRp .sp w = { s.cpu with sp := w } ∧
    (∀ p : Rp, (s.cpu.setRp p w).getRp p = w)

/-- R200, R201, R202: the loads of a register from a register, an immediate, and memory at HL. -/
def Obligations.LoadsIntoRegisters : Prop :=
  ∀ (dst : R8) (s : State), dst ≠ .atHL →
    (∀ r : R8, r ≠ .atHL → DecodesAs [BitVec.ofNat 8 (0x40 + 8 * dst.code + r.code)] (.ldReg dst r) ∧
      exec (.ldReg dst r) s = .next ((s.set8 dst (s.get8 r)).report 4)) ∧
    (∀ n : Byte, DecodesAs [BitVec.ofNat 8 (0x06 + 8 * dst.code), n] (.ldImm dst n) ∧
      exec (.ldImm dst n) s = .next ((s.set8 dst n).report 8)) ∧
    DecodesAs [BitVec.ofNat 8 (0x46 + 8 * dst.code)] (.ldReg dst .atHL) ∧
    exec (.ldReg dst .atHL) s = .next ((s.set8 dst (s.read s.cpu.hl)).report 8)

/-- R203, R204: the stores to memory at HL. -/
def Obligations.StoresThroughHL : Prop :=
  ∀ s : State,
    (∀ r : R8, r ≠ .atHL → DecodesAs [BitVec.ofNat 8 (0x70 + r.code)] (.ldReg .atHL r) ∧
      ∃ t, exec (.ldReg .atHL r) s = .next t ∧ t = (s.write s.cpu.hl (s.get8 r)).report 8 ∧ t.cpu = s.cpu ∧
        StoresAt s t s.cpu.hl (s.get8 r)) ∧
    (∀ n : Byte, DecodesAs [0x36#8, n] (.ldImm .atHL n) ∧
      ∃ t, exec (.ldImm .atHL n) s = .next t ∧ t = (s.write s.cpu.hl n).report 12 ∧ t.cpu = s.cpu ∧
        StoresAt s t s.cpu.hl n)

/-- R205, R206, R209, R211, R213: the loads of A from the other addresses. A and the count are all that changes. -/
def Obligations.AccumulatorLoads : Prop :=
  ∀ (s : State) (a : Word) (n : Byte),
    (DecodesAs [0x0A#8] .ld_A_atBC ∧ exec .ld_A_atBC s =
      .next { s with cpu := { s.cpu with a := s.read (s.cpu.b ++ s.cpu.c) }, cycles := 8 }) ∧
    (DecodesAs [0x1A#8] .ld_A_atDE ∧ exec .ld_A_atDE s =
      .next { s with cpu := { s.cpu with a := s.read (s.cpu.d ++ s.cpu.e) }, cycles := 8 }) ∧
    (DecodesAs [0xFA#8, a.lo, a.hi] (.ld_A_atA16 a) ∧ exec (.ld_A_atA16 a) s =
      .next { s with cpu := { s.cpu with a := s.read a }, cycles := 16 }) ∧
    (DecodesAs [0xF0#8, n] (.ldh_A_atA8 n) ∧ exec (.ldh_A_atA8 n) s =
      .next { s with cpu := { s.cpu with a := s.read (0xFF00#16 + n.setWidth 16) }, cycles := 12 }) ∧
    (DecodesAs [0xF2#8] .ldh_A_atC ∧ exec .ldh_A_atC s =
      .next { s with cpu := { s.cpu with a := s.read (0xFF00#16 + s.cpu.c.setWidth 16) }, cycles := 8 })

/-- R207, R208, R210, R212, R214: the stores of A to the other addresses. -/
def Obligations.AccumulatorStores : Prop :=
  ∀ (s : State) (a : Word) (n : Byte),
    (DecodesAs [0x02#8] .ld_atBC_A ∧ ∃ t, exec .ld_atBC_A s = .next t ∧
      t = (s.write (s.cpu.b ++ s.cpu.c) s.cpu.a).report 8 ∧ t.cpu = s.cpu ∧
      StoresAt s t (s.cpu.b ++ s.cpu.c) s.cpu.a) ∧
    (DecodesAs [0x12#8] .ld_atDE_A ∧ ∃ t, exec .ld_atDE_A s = .next t ∧
      t = (s.write (s.cpu.d ++ s.cpu.e) s.cpu.a).report 8 ∧ t.cpu = s.cpu ∧
      StoresAt s t (s.cpu.d ++ s.cpu.e) s.cpu.a) ∧
    (DecodesAs [0xEA#8, a.lo, a.hi] (.ld_atA16_A a) ∧ ∃ t, exec (.ld_atA16_A a) s = .next t ∧
      t = (s.write a s.cpu.a).report 16 ∧ t.cpu = s.cpu ∧ StoresAt s t a s.cpu.a) ∧
    (DecodesAs [0xE0#8, n] (.ldh_atA8_A n) ∧ ∃ t, exec (.ldh_atA8_A n) s = .next t ∧
      t = (s.write (0xFF00#16 + n.setWidth 16) s.cpu.a).report 12 ∧ t.cpu = s.cpu ∧
      StoresAt s t (0xFF00#16 + n.setWidth 16) s.cpu.a) ∧
    (DecodesAs [0xE2#8] .ldh_atC_A ∧ ∃ t, exec .ldh_atC_A s = .next t ∧
      t = (s.write (0xFF00#16 + s.cpu.c.setWidth 16) s.cpu.a).report 8 ∧ t.cpu = s.cpu ∧
      StoresAt s t (0xFF00#16 + s.cpu.c.setWidth 16) s.cpu.a)

/-- R215 to R218: the accesses at HL that then step HL, modulo 65536; no flag changes. -/
def Obligations.SteppingAccesses : Prop :=
  ∀ s : State,
    (DecodesAs [0x22#8] .ld_atHLI_A ∧ ∃ t, exec .ld_atHLI_A s = .next t ∧
      t.cpu = s.cpu.setHL (s.cpu.hl + 1#16) ∧ t.cycles = 8 ∧
      t = { s.write s.cpu.hl s.cpu.a with cpu := t.cpu, cycles := 8 } ∧ StoresAt s t s.cpu.hl s.cpu.a) ∧
    (DecodesAs [0x32#8] .ld_atHLD_A ∧ ∃ t, exec .ld_atHLD_A s = .next t ∧
      t.cpu = s.cpu.setHL (s.cpu.hl - 1#16) ∧ t.cycles = 8 ∧
      t = { s.write s.cpu.hl s.cpu.a with cpu := t.cpu, cycles := 8 } ∧ StoresAt s t s.cpu.hl s.cpu.a) ∧
    (DecodesAs [0x2A#8] .ld_A_atHLI ∧ exec .ld_A_atHLI s =
      .next { s with cpu := { s.cpu.setHL (s.cpu.hl + 1#16) with a := s.read s.cpu.hl }, cycles := 8 }) ∧
    (DecodesAs [0x3A#8] .ld_A_atHLD ∧ exec .ld_A_atHLD s =
      .next { s with cpu := { s.cpu.setHL (s.cpu.hl - 1#16) with a := s.read s.cpu.hl }, cycles := 8 })

/-! ### 16-bit loads and the stack -/

/-- R230, R232: the loads of a pair and of SP; no flag changes. -/
def Obligations.PairLoads : Prop :=
  ∀ s : State,
    (∀ (p : Rp) (n : Word), DecodesAs [BitVec.ofNat 8 (0x01 + 16 * p.code), n.lo, n.hi] (.ldPair p n) ∧
      exec (.ldPair p n) s = .next { s with cpu := s.cpu.setRp p n, cycles := 12 }) ∧
    DecodesAs [0xF9#8] .ld_SP_HL ∧
    exec .ld_SP_HL s = .next { s with cpu := { s.cpu with sp := s.cpu.h ++ s.cpu.l }, cycles := 8 }

/-- R231: SP to memory, the low byte first; the second address is the next one modulo 65536. -/
def Obligations.StoresStackPointer : Prop :=
  ∀ (s : State) (a : Word), DecodesAs [0x08#8, a.lo, a.hi] (.ld_atA16_SP a) ∧
    ∃ t, exec (.ld_atA16_SP a) s = .next t ∧ t = ((s.write a s.cpu.sp.lo).write (a + 1#16) s.cpu.sp.hi).report 20 ∧
      t.cpu = s.cpu ∧ StoresTwo s t a s.cpu.sp.lo (a + 1#16) s.cpu.sp.hi

/-- R233: the high byte of a pair to SP - 1, then the low byte to SP - 2, where SP ends; no flag changes. -/
def Obligations.Pushes : Prop :=
  ∀ (s : State) (p : Rp2), DecodesAs [BitVec.ofNat 8 (0xC5 + 16 * p.code)] (.pushPair p) ∧
    ∃ t, exec (.pushPair p) s = .next t ∧ t.cpu = { s.cpu with sp := s.cpu.sp - 2#16 } ∧ t.cycles = 16 ∧
      t = { (s.write (s.cpu.sp - 1#16) (s.cpu.getRp2 p).hi).write (s.cpu.sp - 2#16) (s.cpu.getRp2 p).lo with
        cpu := t.cpu, cycles := 16 } ∧
      StoresTwo s t (s.cpu.sp - 1#16) (s.cpu.getRp2 p).hi (s.cpu.sp - 2#16) (s.cpu.getRp2 p).lo

/-- R234, R235: the low byte from SP, the high byte from SP + 1, and SP moves up by two; AF drops bits 3:0 of the popped
byte, and no other pop changes a flag. -/
def Obligations.Pops : Prop :=
  ∀ s : State,
    (∀ p : Rp2, DecodesAs [BitVec.ofNat 8 (0xC1 + 16 * p.code)] (.popPair p)) ∧
    exec (.popPair .bc) s = .next { s with cpu := { s.cpu with
      b := s.read (s.cpu.sp + 1#16), c := s.read s.cpu.sp, sp := s.cpu.sp + 2#16 }, cycles := 12 } ∧
    exec (.popPair .de) s = .next { s with cpu := { s.cpu with
      d := s.read (s.cpu.sp + 1#16), e := s.read s.cpu.sp, sp := s.cpu.sp + 2#16 }, cycles := 12 } ∧
    exec (.popPair .hl) s = .next { s with cpu := { s.cpu with
      h := s.read (s.cpu.sp + 1#16), l := s.read s.cpu.sp, sp := s.cpu.sp + 2#16 }, cycles := 12 } ∧
    exec (.popPair .af) s = .next { s with cpu := { s.cpu with
      a := s.read (s.cpu.sp + 1#16), f := s.read s.cpu.sp &&& 0xF0#8, sp := s.cpu.sp + 2#16 }, cycles := 12 }

/-! ### 8-bit arithmetic and logic -/

/-- R251, R252: `ADC` is one three-operand addition. -/
def Obligations.Adds : Prop :=
  (AluForms .add fun b s t =>
    t.cpu.a.toNat = (s.cpu.a.toNat + b.toNat) % 256 ∧
    FlagsAre t.cpu.f (t.cpu.a = 0#8) False (s.cpu.a.toNat % 16 + b.toNat % 16 > 15)
      (s.cpu.a.toNat + b.toNat > 255)) ∧
  (AluForms .adc fun b s t =>
    t.cpu.a.toNat = (s.cpu.a.toNat + b.toNat + (cf s.cpu.f).toNat) % 256 ∧
    FlagsAre t.cpu.f (t.cpu.a = 0#8) False (s.cpu.a.toNat % 16 + b.toNat % 16 + (cf s.cpu.f).toNat > 15)
      (s.cpu.a.toNat + b.toNat + (cf s.cpu.f).toNat > 255))

/-- R253, R254: the comparisons over the naturals. -/
def Obligations.Subtracts : Prop :=
  (AluForms .sub fun b s t =>
    t.cpu.a.toNat = (s.cpu.a.toNat + 256 - b.toNat) % 256 ∧
    FlagsAre t.cpu.f (t.cpu.a = 0#8) True (s.cpu.a.toNat % 16 < b.toNat % 16) (s.cpu.a.toNat < b.toNat)) ∧
  (AluForms .sbc fun b s t =>
    t.cpu.a.toNat = (s.cpu.a.toNat + 512 - b.toNat - (cf s.cpu.f).toNat) % 256 ∧
    FlagsAre t.cpu.f (t.cpu.a = 0#8) True (s.cpu.a.toNat % 16 < b.toNat % 16 + (cf s.cpu.f).toNat)
      (s.cpu.a.toNat < b.toNat + (cf s.cpu.f).toNat))

/-- R255, R256, R257: bit by bit. -/
def Obligations.Logic : Prop :=
  (AluForms .and fun b s t =>
    (∀ i, t.cpu.a.getLsbD i = (s.cpu.a.getLsbD i && b.getLsbD i)) ∧ FlagsAre t.cpu.f (t.cpu.a = 0#8) False True False) ∧
  (AluForms .xor fun b s t =>
    (∀ i, t.cpu.a.getLsbD i = (s.cpu.a.getLsbD i != b.getLsbD i)) ∧ FlagsAre t.cpu.f (t.cpu.a = 0#8) False False False) ∧
  (AluForms .or fun b s t =>
    (∀ i, t.cpu.a.getLsbD i = (s.cpu.a.getLsbD i || b.getLsbD i)) ∧ FlagsAre t.cpu.f (t.cpu.a = 0#8) False False False)

/-- R258: A is unchanged; the flags are those of `SUB`. -/
def Obligations.Compares : Prop :=
  AluForms .cp fun b s t =>
    t.cpu.a = s.cpu.a ∧
    FlagsAre t.cpu.f (s.cpu.a = b) True (s.cpu.a.toNat % 16 < b.toNat % 16) (s.cpu.a.toNat < b.toNat)

/-- R260, R262 (register forms) and R261, R263 (memory at HL): C is unchanged. -/
def Obligations.IncrementsDecrements : Prop :=
  ∀ (s : State) (r : R8),
    DecodesAs [BitVec.ofNat 8 (0x04 + 8 * r.code)] (.incReg r) ∧
    DecodesAs [BitVec.ofNat 8 (0x05 + 8 * r.code)] (.decReg r) ∧
    (∃ f : Byte, FlagsAre f (s.get8 r + 1#8 = 0#8) False ((s.get8 r).toNat % 16 = 15) (cf s.cpu.f = true) ∧
      ∃ t, exec (.incReg r) s = .next t ∧
        t = ((s.set8 r (s.get8 r + 1#8)).withF f).report (if r = .atHL then 12 else 4) ∧
        (r = .atHL → t.cpu = { s.cpu with f := f } ∧ StoresAt s t s.cpu.hl (s.read s.cpu.hl + 1#8))) ∧
    (∃ f : Byte, FlagsAre f (s.get8 r - 1#8 = 0#8) True ((s.get8 r).toNat % 16 = 0) (cf s.cpu.f = true) ∧
      ∃ t, exec (.decReg r) s = .next t ∧
        t = ((s.set8 r (s.get8 r - 1#8)).withF f).report (if r = .atHL then 12 else 4) ∧
        (r = .atHL → t.cpu = { s.cpu with f := f } ∧ StoresAt s t s.cpu.hl (s.read s.cpu.hl - 1#8)))

/-- R265: the standard algorithm, on natural numbers. -/
def Obligations.DecimalAdjusts : Prop :=
  ∀ s : State, DecodesAs [0x27#8] .daa ∧ ∃ t, exec .daa s = .next t ∧ ChangesAF s t 4 ∧
    (let a := s.cpu.a.toNat
     let low := hf s.cpu.f = true ∨ (nf s.cpu.f = false ∧ a % 16 > 9)
     let high := cf s.cpu.f = true ∨ (nf s.cpu.f = false ∧ a > 0x99)
     ∃ adj, ((low → high → adj = 0x66) ∧ (low → ¬high → adj = 0x06) ∧ (¬low → high → adj = 0x60) ∧
        (¬low → ¬high → adj = 0)) ∧
      t.cpu.a.toNat = (if nf s.cpu.f then a + 256 - adj else a + adj) % 256 ∧
      FlagsAre t.cpu.f (t.cpu.a = 0#8) (nf s.cpu.f = true) False high)

/-- R265, seen from its purpose: after `ADD` of two numbers in BCD, `DAA` leaves their sum in BCD, and C is the carry out of
two digits. -/
def Obligations.DecimalAdditionIsRight : Prop :=
  ∀ (s t u : State) (x y : Nat), x < 100 → y < 100 →
    s.cpu.a.toNat = x / 10 * 16 + x % 10 → s.cpu.b.toNat = y / 10 * 16 + y % 10 →
    exec .add_A_B s = .next t → exec .daa t = .next u →
    u.cpu.a.toNat = (x + y) % 100 / 10 * 16 + (x + y) % 10 ∧ (cf u.cpu.f = true ↔ x + y ≥ 100)

/-- R266, R267, R268: `CPL` and the carry instructions; Z is unchanged. -/
def Obligations.ComplementsAndCarry : Prop :=
  ∀ s : State,
    (DecodesAs [0x2F#8] .cpl ∧ ∃ t, exec .cpl s = .next t ∧ ChangesAF s t 4 ∧ t.cpu.a.toNat = 255 - s.cpu.a.toNat ∧
      FlagsAre t.cpu.f (zf s.cpu.f = true) True True (cf s.cpu.f = true)) ∧
    (DecodesAs [0x37#8] .scf ∧ ∃ t, exec .scf s = .next t ∧ ChangesF s t 4 ∧
      FlagsAre t.cpu.f (zf s.cpu.f = true) False False True) ∧
    (DecodesAs [0x3F#8] .ccf ∧ ∃ t, exec .ccf s = .next t ∧ ChangesF s t 4 ∧
      FlagsAre t.cpu.f (zf s.cpu.f = true) False False (cf s.cpu.f = false))

/-! ### 16-bit arithmetic -/

/-- R290: carries out of bits 11 and 15; Z is unchanged. -/
def Obligations.AddsPairs : Prop :=
  ∀ (s : State) (p : Rp), DecodesAs [BitVec.ofNat 8 (0x09 + 16 * p.code)] (.addHL p) ∧
    ∃ t, exec (.addHL p) s = .next t ∧
      t = { s with cpu := { s.cpu with h := t.cpu.h, l := t.cpu.l, f := t.cpu.f }, cycles := 8 } ∧
      t.cpu.hl.toNat = (s.cpu.hl.toNat + (s.cpu.getRp p).toNat) % 65536 ∧
      FlagsAre t.cpu.f (zf s.cpu.f = true) False
        (s.cpu.hl.toNat % 4096 + (s.cpu.getRp p).toNat % 4096 > 0x0FFF)
        (s.cpu.hl.toNat + (s.cpu.getRp p).toNat > 0xFFFF)

/-- R291, R292: modulo 65536; no flag changes. -/
def Obligations.StepsPairs : Prop :=
  ∀ (s : State) (p : Rp),
    (DecodesAs [BitVec.ofNat 8 (0x03 + 16 * p.code)] (.incPair p) ∧
      exec (.incPair p) s = .next { s with cpu := s.cpu.setRp p (s.cpu.getRp p + 1#16), cycles := 8 }) ∧
    (DecodesAs [BitVec.ofNat 8 (0x0B + 16 * p.code)] (.decPair p) ∧
      exec (.decPair p) s = .next { s with cpu := s.cpu.setRp p (s.cpu.getRp p - 1#16), cycles := 8 })

/-- R293, R294: SP plus a signed displacement; H and C from the low byte and the unsigned displacement. -/
def Obligations.DisplacesStackPointer : Prop :=
  ∀ (s : State) (u : Byte),
    (DecodesAs [0xE8#8, u] (.add_SP_e8 u) ∧ ∃ t, exec (.add_SP_e8 u) s = .next t ∧
      t = { s with cpu := { s.cpu with sp := t.cpu.sp, f := t.cpu.f }, cycles := 16 } ∧
      (t.cpu.sp.toNat : Int) = ((s.cpu.sp.toNat : Int) + u.toInt) % 65536 ∧
      FlagsAre t.cpu.f False False (s.cpu.sp.toNat % 16 + u.toNat % 16 > 15) (s.cpu.sp.toNat % 256 + u.toNat > 255)) ∧
    (DecodesAs [0xF8#8, u] (.ld_HL_SP_e8 u) ∧ ∃ t, exec (.ld_HL_SP_e8 u) s = .next t ∧
      t = { s with cpu := { s.cpu with h := t.cpu.h, l := t.cpu.l, f := t.cpu.f }, cycles := 12 } ∧
      (t.cpu.hl.toNat : Int) = ((s.cpu.sp.toNat : Int) + u.toInt) % 65536 ∧
      FlagsAre t.cpu.f False False (s.cpu.sp.toNat % 16 + u.toNat % 16 > 15) (s.cpu.sp.toNat % 256 + u.toNat > 255))

/-! ### Rotates, shifts, bits -/

/-- R300 to R303: Z is always cleared. -/
def Obligations.RotatesA : Prop :=
  ∀ s : State,
    (let bit7 := s.cpu.a.toNat / 128
     let bit0 := s.cpu.a.toNat % 2
     let carry := (cf s.cpu.f).toNat
     (DecodesAs [0x07#8] .rlca ∧ ∃ t, exec .rlca s = .next t ∧ ChangesAF s t 4 ∧
       t.cpu.a.toNat = 2 * s.cpu.a.toNat % 256 + bit7 ∧ FlagsAre t.cpu.f False False False (bit7 = 1)) ∧
     (DecodesAs [0x0F#8] .rrca ∧ ∃ t, exec .rrca s = .next t ∧ ChangesAF s t 4 ∧
       t.cpu.a.toNat = s.cpu.a.toNat / 2 + 128 * bit0 ∧ FlagsAre t.cpu.f False False False (bit0 = 1)) ∧
     (DecodesAs [0x17#8] .rla ∧ ∃ t, exec .rla s = .next t ∧ ChangesAF s t 4 ∧
       t.cpu.a.toNat = 2 * s.cpu.a.toNat % 256 + carry ∧ FlagsAre t.cpu.f False False False (bit7 = 1)) ∧
     (DecodesAs [0x1F#8] .rra ∧ ∃ t, exec .rra s = .next t ∧ ChangesAF s t 4 ∧
       t.cpu.a.toNat = s.cpu.a.toNat / 2 + 128 * carry ∧ FlagsAre t.cpu.f False False False (bit0 = 1)))

/-- R306 to R313, with R305's forms: on a register, and on memory at HL, one read and one write. -/
def Obligations.RotatesAndShifts : Prop :=
  ∀ (op : RotOp) (r : R8) (s : State),
    DecodesAs [0xCB#8, BitVec.ofNat 8 (8 * op.code + r.code)] (.rot op r) ∧
    ∃ (w f : Byte) (out : Nat), RotatesTo op (s.get8 r).toNat (cf s.cpu.f).toNat w.toNat out ∧
      FlagsAre f (w = 0#8) False False (out = 1) ∧
      ∃ t, exec (.rot op r) s = .next t ∧ t = ((s.set8 r w).withF f).report (if r = .atHL then 16 else 8) ∧
        (r = .atHL → t.cpu = { s.cpu with f := f } ∧ StoresAt s t s.cpu.hl w)

/-- R315: the operand is read and not written; Z is the complement of the bit, C is unchanged. -/
def Obligations.TestsBits : Prop :=
  ∀ (n : Fin 8) (r : R8) (s : State),
    DecodesAs [0xCB#8, BitVec.ofNat 8 (0x40 + 8 * n.val + r.code)] (.bit n r) ∧
    ∃ t, exec (.bit n r) s = .next t ∧ ChangesF s t (if r = .atHL then 12 else 8) ∧
      FlagsAre t.cpu.f ((s.get8 r).getLsbD n.val = false) False True (cf s.cpu.f = true)

/-- R316, R317: one bit of the operand is cleared or set; no flag changes. -/
def Obligations.ChangesBits : Prop :=
  ∀ (n : Fin 8) (r : R8) (s : State),
    DecodesAs [0xCB#8, BitVec.ofNat 8 (0x80 + 8 * n.val + r.code)] (.res n r) ∧
    DecodesAs [0xCB#8, BitVec.ofNat 8 (0xC0 + 8 * n.val + r.code)] (.set n r) ∧
    (∃ w : Byte, (∀ i, i < 8 → w.getLsbD i = if i = n.val then false else (s.get8 r).getLsbD i) ∧
      ∃ t, exec (.res n r) s = .next t ∧ t = (s.set8 r w).report (if r = .atHL then 16 else 8) ∧
        (r = .atHL → t.cpu = s.cpu ∧ StoresAt s t s.cpu.hl w)) ∧
    (∃ w : Byte, (∀ i, i < 8 → w.getLsbD i = if i = n.val then true else (s.get8 r).getLsbD i) ∧
      ∃ t, exec (.set n r) s = .next t ∧ t = (s.set8 r w).report (if r = .atHL then 16 else 8) ∧
        (r = .atHL → t.cpu = s.cpu ∧ StoresAt s t s.cpu.hl w))

/-! ### Jumps, calls, returns -/

/-- R330, R332, R333: PC and the count are all that changes. -/
def Obligations.Jumps : Prop :=
  ∀ (s : State) (a : Word) (u : Byte),
    (DecodesAs [0xC3#8, a.lo, a.hi] (.jp_a16 a) ∧
      exec (.jp_a16 a) s = .next { s with cpu := { s.cpu with pc := a }, cycles := 16 }) ∧
    (DecodesAs [0xE9#8] .jp_HL ∧
      exec .jp_HL s = .next { s with cpu := { s.cpu with pc := s.cpu.h ++ s.cpu.l }, cycles := 4 }) ∧
    (DecodesAs [0x18#8, u] (.jr_e8 u) ∧ ∃ t, exec (.jr_e8 u) s = .next t ∧
      t = { s with cpu := { s.cpu with pc := t.cpu.pc }, cycles := 12 } ∧
      (t.cpu.pc.toNat : Int) = ((s.cpu.pc.toNat : Int) + u.toInt) % 65536)

/-- R331, R334, with R340's conditions: taken and not taken. -/
def Obligations.ConditionalJumps : Prop :=
  ∀ (k : Cond) (s : State) (a : Word) (u : Byte),
    DecodesAs [BitVec.ofNat 8 (0xC2 + 8 * k.code), a.lo, a.hi] (.jpIf k a) ∧
    DecodesAs [BitVec.ofNat 8 (0x20 + 8 * k.code), u] (.jrIf k u) ∧
    (CondIs k s.cpu.f →
      exec (.jpIf k a) s = .next { s with cpu := { s.cpu with pc := a }, cycles := 16 } ∧
      ∃ t, exec (.jrIf k u) s = .next t ∧ t = { s with cpu := { s.cpu with pc := t.cpu.pc }, cycles := 12 } ∧
        (t.cpu.pc.toNat : Int) = ((s.cpu.pc.toNat : Int) + u.toInt) % 65536) ∧
    (¬CondIs k s.cpu.f →
      exec (.jpIf k a) s = .next { s with cycles := 12 } ∧ exec (.jrIf k u) s = .next { s with cycles := 8 })

/-- R335, R345. -/
def Obligations.Calls : Prop :=
  ∀ (s : State),
    (∀ a : Word, DecodesAs [0xCD#8, a.lo, a.hi] (.call_a16 a) ∧ ∃ t, exec (.call_a16 a) s = .next t ∧ CallsTo s t a 24) ∧
    (∀ y : Fin 8, DecodesAs [BitVec.ofNat 8 (0xC7 + 8 * y.val)] (.rst y) ∧
      ∃ t, exec (.rst y) s = .next t ∧ CallsTo s t (BitVec.ofNat 16 (8 * y.val)) 16)

/-- R336: not taken leaves SP and memory untouched. -/
def Obligations.ConditionalCalls : Prop :=
  ∀ (k : Cond) (s : State) (a : Word),
    DecodesAs [BitVec.ofNat 8 (0xC4 + 8 * k.code), a.lo, a.hi] (.callIf k a) ∧
    (CondIs k s.cpu.f → ∃ t, exec (.callIf k a) s = .next t ∧ CallsTo s t a 24) ∧
    (¬CondIs k s.cpu.f → exec (.callIf k a) s = .next { s with cycles := 12 })

/-- R337, R339: PC from the two bytes at SP; `RETI` also sets IME, at once, and leaves `ime_pending` (the spec's decision
D8). -/
def Obligations.Returns : Prop :=
  ∀ s : State,
    (DecodesAs [0xC9#8] .ret ∧ exec .ret s = .next { s with
      cpu := { s.cpu with pc := s.read (s.cpu.sp + 1#16) ++ s.read s.cpu.sp, sp := s.cpu.sp + 2#16 }, cycles := 16 }) ∧
    (DecodesAs [0xD9#8] .reti ∧ exec .reti s = .next { s with
      cpu := { s.cpu with
        pc := s.read (s.cpu.sp + 1#16) ++ s.read s.cpu.sp, sp := s.cpu.sp + 2#16, ime := true }, cycles := 16 })

/-- R338: not taken leaves SP untouched. -/
def Obligations.ConditionalReturns : Prop :=
  ∀ (k : Cond) (s : State), DecodesAs [BitVec.ofNat 8 (0xC0 + 8 * k.code)] (.retIf k) ∧
    (CondIs k s.cpu.f → exec (.retIf k) s = .next { s with
      cpu := { s.cpu with pc := s.read (s.cpu.sp + 1#16) ++ s.read s.cpu.sp, sp := s.cpu.sp + 2#16 }, cycles := 20 }) ∧
    (¬CondIs k s.cpu.f → exec (.retIf k) s = .next { s with cycles := 8 })

/-! ### System instructions and the step -/

/-- R350, R351, R353, and what `HALT` and `EI` themselves do (R352, R354). The length and the count of `STOP` are the spec's
decision D6, `ime_pending` its decision D8. -/
def Obligations.SystemInstructions : Prop :=
  ∀ (s : State) (n : Byte),
    (DecodesAs [0x00#8] .nop ∧ exec .nop s = .next { s with cycles := 4 }) ∧
    (DecodesAs [0x10#8, n] (.stop n) ∧ exec (.stop n) s = .next { s with cycles := 4 }) ∧
    (DecodesAs [0x76#8] .halt ∧ exec .halt s = .next { s with cpu := { s.cpu with halted := true }, cycles := 4 }) ∧
    (DecodesAs [0xF3#8] .di ∧
      exec .di s = .next { s with cpu := { s.cpu with ime := false, imePending := false }, cycles := 4 }) ∧
    (DecodesAs [0xFB#8] .ei ∧ exec .ei s = .next { s with cpu := { s.cpu with imePending := true }, cycles := 4 })

/-- R355, R180: the eleven illegal opcodes. The instruction puts the machine into the Faulted condition with the record
(opcode, address), the address being that of the opcode, and changes no other register, no memory and no flag (the spec's
decision D4; log entry 4). -/
def Obligations.IllegalOpcodesFault : Prop :=
  ∀ (o : IllegalOp) (s : State), DecodesAs [o.opcode] (.illegal o) ∧
    exec (.illegal o) s = .next { s with cpu := { s.cpu with
      faulted := some { opcode := o.opcode, address := s.cpu.pc - 1#16 }, halted := false } }

/-- R372: the step that meets an illegal opcode leaves the state as it was but for PC, the record and `halted`: no cycles
are delivered, no interrupt check runs, `ime_pending` stays. From the Faulted state there is no step (the spec's decision
D4; log entry 4). -/
def Obligations.IllegalStepFaults : Prop :=
  ∀ (o : IllegalOp) (s : State), s.cpu.faulted = none → (s.cpu.halted = true → s.irq.flags ≠ 0#5) →
    s.read s.cpu.pc = o.opcode →
    ∃ t, step s = .next t ∧
      t = { s with cpu := { s.cpu with
        pc := s.cpu.pc + 1#16, faulted := some { opcode := o.opcode, address := s.cpu.pc }, halted := false } } ∧
      step t = .fault (.illegalInstruction o.opcode s.cpu.pc)

/-- A step runs the decoded instruction: where the bytes at PC are those of a well-formed instruction, and the machine is
neither Faulted nor asleep, the step is `exec` of that instruction with PC past it and `ime_pending` taken, then the delayed
enable, then (unless it faulted) the carried cycles, the timer, the PPU and the interrupt check (R370, R371, R373; the order
and the carried cycles are the spec's decisions D10 and D11, the delayed enable its decision D8). That the step of an illegal
opcode answers the Faulted state, with `ime_pending` as before it, is the spec's decision D4 and log entry 4 (DEDUCED). -/
def Obligations.StepRunsTheInstruction : Prop :=
  ∀ (s : State) (i : Instr), s.cpu.faulted = none → s.cpu.halted = false → i.wf = true →
    (∀ k (h : k < (encode i).length), s.read (s.cpu.pc + BitVec.ofNat 16 k) = (encode i)[k]) →
    step s =
      match exec i (s.onCpu fun c =>
        { c with pc := c.pc + BitVec.ofNat 16 (encode i).length, imePending := false }) with
      | .next t =>
        let u :=
          if t.cpu.faulted.isSome then t.onCpu fun c => { c with imePending := s.cpu.imePending }
          else if s.cpu.imePending = true ∧ i ≠ .di then t.onCpu fun c => { c with ime := true }
          else t
        if u.cpu.faulted.isSome then .next u
        else
          let cyc := u.carryCycles + u.cycles
          .next { (({ u with carryCycles := 0 }.timerTick cyc).ppuTick cyc).interruptCheck with cycles := cyc }
      | .fault r => .fault r
      | .refused r => .refused r

/-- R352, R373: while the machine is halted and no trigger bit is set, a step fetches nothing, changes no CPU register
before the interrupt check, and delivers the carried cycles and 4; once any trigger bit is set, enabled or not, the step is
that of the machine awake (when exactly the wake test runs is the spec's decision D7). -/
def Obligations.HaltWaits : Prop :=
  ∀ s : State, s.cpu.faulted = none → s.cpu.halted = true →
    (s.irq.flags = 0#5 → step s = .next
      { (({ s with carryCycles := 0, cycles := 4 }.timerTick (s.carryCycles + 4)).ppuTick
          (s.carryCycles + 4)).interruptCheck with cycles := s.carryCycles + 4 }) ∧
    (s.irq.flags ≠ 0#5 → step s = step (s.onCpu fun c => { c with halted := false }))

/-- R354, R373, R490: the step of `EI` leaves IME off and `ime_pending` set; in the step of the instruction after it (any
but `DI`, and one that does not fault) IME is on when the timer, the PPU and the interrupt check follow (the mechanism is the
spec's decision D8). -/
def Obligations.EnableIsDelayed : Prop :=
  ∀ (s : State) (i : Instr) (t : State), i.wf = true → i ≠ .di → s.cpu.faulted = none → s.cpu.halted = false →
    (s.cpu.ime = false → s.cpu.imePending = false → s.fetched = .ei →
      ∃ u, step s = .next u ∧ u.cpu.ime = false ∧ u.cpu.imePending = true) ∧
    (s.cpu.imePending = true → s.fetched = i → s.cpuStep = .next t → t.cpu.faulted = none →
      t.cpu.ime = true ∧ step s = .next t.lockstep)

/-! ### Interrupts -/

/-- R381, R382, R383: with IME off or nothing pending and enabled the check changes nothing; with IME on, the
lowest-numbered pending source is taken: PC is pushed, IME and `ime_pending` are cleared, this one trigger bit is cleared,
PC is the vector, `halted` is cleared, the dispatch's cycles are carried (the vectors and what else is cleared are the spec's
decisions D7 to D9, the carrying D10). -/
def Obligations.InterruptsDispatch : Prop :=
  (∀ s : State, (s.cpu.ime = false ∨ s.irq.flags &&& s.irq.enable.extractLsb' 0 5 = 0#5) → s.interruptCheck = s) ∧
  ∀ (s : State) (k : Fin 5), s.cpu.ime = true → (s.irq.flags &&& s.irq.enable.extractLsb' 0 5).getLsbD k.val = true →
    (∀ j : Fin 5, j < k → (s.irq.flags &&& s.irq.enable.extractLsb' 0 5).getLsbD j.val = false) →
    (let t := (s.write (s.cpu.sp - 1#16) s.cpu.pc.hi).write (s.cpu.sp - 2#16) s.cpu.pc.lo
     let u := s.interruptCheck
     u.cpu = { s.cpu with
       sp := s.cpu.sp - 2#16, pc := BitVec.ofNat 16 (0x0040 + 8 * k.val), ime := false, imePending := false
       halted := false } ∧
     (∀ j : Fin 5, u.irq.flags.getLsbD j.val = (t.irq.flags.getLsbD j.val && decide (j ≠ k))) ∧
     u.irq.enable = t.irq.enable ∧ u.carryCycles = t.carryCycles + s.config.intDispatchCycles ∧
     u = { t with cpu := u.cpu, irq := u.irq, carryCycles := u.carryCycles } ∧
     StoresTwo s t (s.cpu.sp - 1#16) s.cpu.pc.hi (s.cpu.sp - 2#16) s.cpu.pc.lo)

/-- From the prose of R353, R354, R382 and R384 together: nothing but `RETI` and the delayed effect of `EI` turns interrupts
on (D8). -/
def Obligations.OnlyRetiAndEiEnable : Prop :=
  ∀ s t : State, step s = .next t → s.cpu.ime = false → t.cpu.ime = true →
    s.cpu.imePending = true ∨ s.fetched = .reti

/-! ### Timer -/

/-- R390: "no cycle is dropped": the timer after two ticks is the timer after one tick of the sum. DIV counts every period of
DIV_PERIOD_CYCLES modulo 256 and its sub-counter keeps the remainder, whatever TAC holds; while TAC's enable bit is 0, TIMA
and its sub-counter are frozen and nothing is raised, and while it is 1 the sub-counter keeps the remainder of TIMA's period.
The timer and its one trigger bit are all a tick changes. (TAC's codes are the spec's decision D12, the DIV period D13, the
frozen sub-counter D14; that DIV stands still at a period of 0 is the model's choice, log entry 3, and the loop as a quotient
log entry 13, DEDUCED.) -/
def Obligations.TimerLosesNoCycle : Prop :=
  ∀ (s : State) (a b cyc : Nat),
    (s.timerTick a).timerTick b = s.timerTick (a + b) ∧
    (let t := s.timerTick cyc
     t = { s with
       timer := { s.timer with
         div := t.timer.div, divSub := t.timer.divSub, tima := t.timer.tima, timaSub := t.timer.timaSub }
       irq := { s.irq with flags := t.irq.flags } } ∧
     (∀ k, k ≠ 2 → t.irq.flags.getLsbD k = s.irq.flags.getLsbD k) ∧
     (0 < s.config.divPeriod →
       t.timer.div.toNat = (s.timer.div.toNat + (s.timer.divSub + cyc) / s.config.divPeriod) % 256 ∧
       t.timer.divSub = (s.timer.divSub + cyc) % s.config.divPeriod) ∧
     (s.timer.tac.getLsbD 2 = false →
       t.timer.tima = s.timer.tima ∧ t.timer.timaSub = s.timer.timaSub ∧ t.irq = s.irq) ∧
     (s.timer.tac.getLsbD 2 = true →
       t.timer.timaSub = (s.timer.timaSub + cyc) % timaPeriod (s.timer.tac.extractLsb' 0 2)))

/-- R390: TIMA counts the periods of the selected frequency; past 0xFF it continues from TMA and raises the timer trigger (the
reload's instant and the periods are the spec's decisions D14 and D12).
Up to the second overflow of one tick; `n` is the number of increments. -/
def Obligations.TimaOverflows : Prop :=
  (timaPeriod 0#2 = 1024 ∧ timaPeriod 1#2 = 16 ∧ timaPeriod 2#2 = 64 ∧ timaPeriod 3#2 = 256) ∧
  ∀ (s : State) (cyc n : Nat), s.timer.tac.getLsbD 2 = true →
    n = (s.timer.timaSub + cyc) / timaPeriod (s.timer.tac.extractLsb' 0 2) →
    (n + s.timer.tima.toNat < 256 →
      (s.timerTick cyc).timer.tima.toNat = s.timer.tima.toNat + n ∧ (s.timerTick cyc).irq = s.irq) ∧
    (256 ≤ n + s.timer.tima.toNat → n + s.timer.tima.toNat + s.timer.tma.toNat < 512 →
      (s.timerTick cyc).timer.tima.toNat = s.timer.tma.toNat + (n + s.timer.tima.toNat - 256) ∧
      (s.timerTick cyc).irq = { s.irq with flags := s.irq.flags ||| 0x04#5 })

/-! ### PPU -/

/-- R421: scanlines complete exactly every 456 cycles, and LY counts them modulo 154. -/
def Obligations.LinesComplete : Prop :=
  ∀ (s : State) (cyc : Nat), s.PpuOk →
    (s.ppuTick cyc).ppu.acc = (s.ppu.acc + cyc) % 456 ∧
    (s.ppuTick cyc).ppu.ly.toNat = (s.ppu.ly.toNat + (s.ppu.acc + cyc) / 456) % 154

/-- R425, R421, R422, R470: a tick completes a scanline while the accumulator holds 456 cycles; what the completion of one
raises, and when a frame is published. STAT bits 3 to 6 are bits 0 to 3 of `stat_sel`. A visible line that ends in CGB mode
with a transfer armed moves one HDMA chunk, and no other does; a visible line that begins with the display on is rendered.
Nothing else changes. (Where the source does not order the sub-steps, the order is the spec's decision D29, the causes D30,
the place of H-Blank D31, the publishing D35.) -/
def Obligations.LineRaises : Prop :=
  (∀ (s : State) (cyc : Nat),
    (let u : State := { s with ppu := { s.ppu with acc := s.ppu.acc + cyc } }
     (s.ppu.acc + cyc < 456 → s.ppuTick cyc = u) ∧ (456 ≤ s.ppu.acc + cyc → s.ppuTick cyc = u.completeLine.ppuTick 0))) ∧
  ∀ s : State, s.ppu.ly.toNat < 154 → 456 ≤ s.ppu.acc →
    (let old := s.ppu.ly.toNat
     let new := (old + 1) % 154
     let t := s.completeLine
     -- the state the chunk of an H-Blank reads the address space of
     let w : State := { s with
       ppu := { s.ppu with acc := s.ppu.acc - 456 }
       irq := { s.irq with
         flags := if s.ppu.statSel.getLsbD 0 then s.irq.flags ||| 0x02#5 else s.irq.flags } }
     t.ppu.ly.toNat = new ∧
     (t.irq.flags.getLsbD 0 = true ↔
       s.irq.flags.getLsbD 0 = true ∨ (new = 144 ∧ s.ppu.lcdc.getLsbD 7 = true)) ∧
     (t.irq.flags.getLsbD 1 = true ↔
       s.irq.flags.getLsbD 1 = true ∨ (s.ppu.statSel.getLsbD 0 = true ∧ old < 144) ∨
         (s.ppu.statSel.getLsbD 1 = true ∧ new = 144) ∨ (s.ppu.statSel.getLsbD 2 = true ∧ new < 144) ∨
         (s.ppu.statSel.getLsbD 3 = true ∧ new = s.ppu.lyc.toNat)) ∧
     (∀ k, 2 ≤ k → t.irq.flags.getLsbD k = s.irq.flags.getLsbD k) ∧
     t.irq.enable = s.irq.enable ∧
     (t.ppu.statCoinc = true ↔ new = s.ppu.lyc.toNat) ∧
     (new = 144 → t.ppu.published = s.ppu.raster) ∧ (new ≠ 144 → t.ppu.published = s.ppu.published) ∧
     (¬(new < 144 ∧ s.ppu.lcdc.getLsbD 7 = true) →
       t.ppu.raster = s.ppu.raster ∧ t.ppu.tag = s.ppu.tag ∧ t.ppu.bgIdx = s.ppu.bgIdx) ∧
     (new < 144 → s.ppu.lcdc.getLsbD 7 = true →
       (let r := ({ s with mem := t.mem } : State).renderScanline new
        t.ppu.raster = r.ppu.raster ∧ t.ppu.tag = r.ppu.tag ∧ t.ppu.bgIdx = r.ppu.bgIdx)) ∧
     (old < 144 → s.cart.cgbMode = true → s.hdma.active = true →
       t.mem = w.hblankChunk.mem ∧ t.hdma = w.hblankChunk.hdma ∧ t.carryCycles = w.hblankChunk.carryCycles) ∧
     (144 ≤ old ∨ s.cart.cgbMode = false ∨ s.hdma.active = false →
       t.mem = s.mem ∧ t.hdma = s.hdma ∧ t.carryCycles = s.carryCycles) ∧
     t = { s with
       irq := t.irq, mem := t.mem, hdma := t.hdma, carryCycles := t.carryCycles
       ppu := { s.ppu with
         ly := t.ppu.ly, acc := s.ppu.acc - 456, statCoinc := t.ppu.statCoinc, raster := t.ppu.raster
         published := t.ppu.published, tag := t.ppu.tag, bgIdx := t.ppu.bgIdx } })

/-- R429, R430, R432, R434, R440, R445, R448, R449, R450: rendering line `ly` replaces that row by 160 pixels and no other
row. Each pixel is that of its column: blank, background or window, then the sprites of the line one after another. They are
the first ten of OAM that lie on it. An opaque pixel of one that is not hidden behind the background's colours 1 to 3 is put
over background and window, and over a sprite of no higher tag; drawing never lowers a column's tag and never changes its
background index, and a pixel behind the background appears only where that index is 0. (The 160 columns and the conversion
of colours are the spec's decision D35; tile maps, tile data, attributes, the window's line, a sprite's offset and height are
D33; the selection and equal tags are D34; columns for layers are log entry 12, DEDUCED.) -/
def Obligations.ScanlineComposes : Prop :=
  ∀ (s : State) (ly : Nat),
    ((s.renderScanline ly).ppu.raster.length = s.ppu.raster.length ∧
      (∀ k, k ≠ ly → (s.renderScanline ly).ppu.raster[k]? = s.ppu.raster[k]?) ∧
      (ly < s.ppu.raster.length → ((s.renderScanline ly).ppu.raster[ly]?.map List.length) = some 160)) ∧
    ((s.lineSprites ly).length ≤ 10 ∧ ∀ o ∈ s.lineSprites ly, OnLine s ly o) ∧
    (∀ (sprites : List Sprite) (x : Nat) (c : Column),
      (sprites.foldl (s.drawSprite ly x) c).bgIdx = c.bgIdx ∧
      c.tag.rank ≤ (sprites.foldl (s.drawSprite ly x) c).tag.rank ∧
      ((sprites.foldl (s.drawSprite ly x) c).tag = .spriteBehind → c.tag = .spriteBehind ∨ c.bgIdx = 0#2)) ∧
    ((s.lineSprites ly).Sublist ((List.range 40).map s.sprite) ∧
      ((s.lineSprites ly).length < 10 → ∀ i, i < 40 → OnLine s ly (s.sprite i) → s.sprite i ∈ s.lineSprites ly) ∧
      -- the entries drawn are those on the line with fewer than ten such entries before them, in the order of OAM
      ∃ entries : List Nat, s.lineSprites ly = entries.map s.sprite ∧ entries.Pairwise (· < ·) ∧
        ∀ i, i ∈ entries ↔ i < 40 ∧ OnLine s ly (s.sprite i) ∧
          (List.range i).countP (fun j => decide (OnLine s ly (s.sprite j))) < 10) ∧
    ∀ x, x < 160 →
      (let c0 := s.renderColumn [] ly x
       let c := s.renderColumn (s.lineSprites ly) ly x
       (ly < s.ppu.raster.length → ((s.renderScanline ly).ppu.raster[ly]?.bind (·[x]?)) = some c.pixel) ∧
       (s.renderScanline ly).ppu.tag[x]? = some c.tag ∧ (s.renderScanline ly).ppu.bgIdx[x]? = some c.bgIdx ∧
       TilesDrawn s ly x c0 ∧
       c = (if s.ppu.lcdc.getLsbD 1 then (s.lineSprites ly).foldl (s.drawSprite ly x) c0 else c0) ∧
       (∀ (o : Sprite) (d : Column), ∃ idx,
         (OnLine s ly o → o.x.toNat ≤ x + 8 → x < o.x.toNat → SpriteIdxIs s ly x o idx) ∧
         SpriteDrawn s x o idx d (s.drawSprite ly x d o)) ∧
       (s.ppu.lcdc.getLsbD 1 = true → ∀ o ∈ s.lineSprites ly, o.x.toNat ≤ x + 8 → x < o.x.toNat →
         ¬SpriteIdxIs s ly x o 0#2 →
         (¬GoesBehind s o → c.tag = .spriteAbove) ∧
         (GoesBehind s o → c.bgIdx = 0#2 → c.tag = .spriteBehind ∨ c.tag = .spriteAbove)))

/-! ### DMA -/

/-- R460: a write of `v` to FF46 stores DMA and copies 160 bytes into OAM, read through the address space; OAM and DMA are
all that changes. (The source 0xFE is OAM itself, which the copy leaves as it is.) The page and the length are the spec's
decision D32. -/
def Obligations.OamDmaCopies : Prop :=
  ∀ (s : State) (v : Byte), s.MemoryOk →
    (let t := s.write 0xFF46#16 v
     let s' := { s with ppu := { s.ppu with dma := v } }
     t = { s' with mem := { s'.mem with oam := t.mem.oam } } ∧
     (∀ i, i < 160 → t.mem.oam.read i = s'.read (BitVec.ofNat 16 (256 * v.toNat + i))) ∧
     (∀ i, 160 ≤ i → t.mem.oam.read i = s.mem.oam.read i))

/-- R463, R464, R465, R466: HDMA in CGB mode: a general transfer, chunk by chunk, with the bytes of VRAM and the addresses of
each (`ChunkMoves`), arming, cancelling, re-arming, and the chunk of an H-Blank. Nothing but VRAM, the HDMA registers and the
carried cycles changes. FF55 reads the remaining length, with bit 7 clear while a transfer is armed and set after a cancel.
The meaning of the trigger's bits, the read-back and the place of H-Blank are the spec's decision D31. -/
def Obligations.HdmaTransfers : Prop :=
  ∀ (s : State) (v : Byte), s.cart.cgbMode = true →
    (s.read 0xFF55#16).toNat = (if s.hdma.active then 0 else 128) + s.hdma.len.toNat ∧
    (let t := s.write 0xFF55#16 v
     t = { s with mem := { s.mem with vram := t.mem.vram }, hdma := t.hdma, carryCycles := t.carryCycles } ∧
     (s.hdma.active = false → v.getLsbD 7 = false →
       (∃ u, ChunksMove (v.toNat % 128 + 1) s u ∧
         t = { u with hdma := { u.hdma with len := 0x7F#7, active := false } }) ∧
       t.carryCycles = s.carryCycles + 8 * (v.toNat % 128 + 1) ∧
       t.hdma.src = s.hdma.src + BitVec.ofNat 16 (16 * (v.toNat % 128 + 1)) ∧ t.read 0xFF55#16 = 0xFF#8) ∧
     (s.hdma.active = false → v.getLsbD 7 = true →
       t = { s with hdma := { s.hdma with len := v.extractLsb' 0 7, active := true } } ∧
       (t.read 0xFF55#16).toNat = v.toNat % 128) ∧
     (s.hdma.active = true → v.getLsbD 7 = false →
       t = { s with hdma := { s.hdma with active := false } } ∧ (t.read 0xFF55#16).toNat = 128 + s.hdma.len.toNat) ∧
     (s.hdma.active = true → v.getLsbD 7 = true →
       t = { s with hdma := { s.hdma with len := v.extractLsb' 0 7 } } ∧ (t.read 0xFF55#16).toNat = v.toNat % 128)) ∧
    ∃ u, ChunkMoves s u ∧
      (s.hdma.len = 0#7 → s.hblankChunk = { u with hdma := { u.hdma with len := 0x7F#7, active := false } }) ∧
      (s.hdma.len ≠ 0#7 → ∃ n : BitVec 7, n.toNat + 1 = s.hdma.len.toNat ∧
        s.hblankChunk = { u with hdma := { u.hdma with len := n } })

/-! ### Cartridge and bus -/

/-- R155, R128, R130, R135, R141, R146: the bank visible at 4000-7FFF exists, whatever the control registers hold, and a
read there is one of the image. MBC1 joins the two high bits in mode 0 and not in mode 1, and a low bank number 0 selects the
next bank, whatever the high bits (0x00, 0x20, 0x40, 0x60 show 0x01, 0x21, 0x41, 0x61); MBC2 and MBC3 redirect 0 alone, MBC5
nothing. (The reduction is the spec's decision D22, MBC1's modes its decision D23, MBC2 its decision D24, the widths D25 and
D26.) -/
def Obligations.RomBanks : Prop :=
  ∀ (s : State) (a : Word), 1 < s.cart.romBanks →
    (let bank := effRomBank s.cart s.mbc
     let n := s.cart.romBanks
     let lo := s.mbc.bankLo.toNat
     let hi := s.mbc.bankHi.toNat
     bank < n ∧
     (s.cart.kind = .none → bank = 1) ∧
     (s.cart.kind = .mbc1 → s.mbc.mode = false →
       (lo = 0 → bank = (32 * hi + 1) % n) ∧ (lo ≠ 0 → bank = (32 * hi ||| lo) % n)) ∧
     (s.cart.kind = .mbc1 → s.mbc.mode = true → (lo = 0 → bank = 1) ∧ (lo ≠ 0 → bank = lo % n)) ∧
     (s.cart.kind = .mbc2 ∨ s.cart.kind = .mbc3 → (lo = 0 → bank = 1) ∧ (lo ≠ 0 → bank = lo % n)) ∧
     (s.cart.kind = .mbc5 → bank = (256 * hi + lo) % n) ∧
     (a.toNat < 0x4000 → s.read a = s.cart.rom.read a.toNat) ∧
     (0x4000 ≤ a.toNat → a.toNat < 0x8000 → s.read a = s.cart.rom.read (16384 * bank + (a.toNat - 0x4000))))

/-- R65, R129, R134, R140, R145: a write to 0000-7FFF changes the bank controller's registers and nothing else: MBC1's, MBC2's,
MBC3's, MBC5's; without a controller it is discarded. The one register of MBC1 at 4000-5FFF and the ranges of the others are
the spec's decisions D23 to D27. -/
def Obligations.ControlWrites : Prop :=
  ∀ (s : State) (a : Word) (v : Byte), a.toNat < 0x8000 →
    (let t := s.write a v
     let en := v.toNat % 16 = 0x0A
     t = { s with mbc := t.mbc } ∧
     (s.cart.kind = .none → t.mbc = s.mbc) ∧
     (s.cart.kind = .mbc1 →
       (a.toNat < 0x2000 → ∃ b, (b = true ↔ en) ∧ t.mbc = { s.mbc with ramEnable := b }) ∧
       (0x2000 ≤ a.toNat → a.toNat < 0x4000 → t.mbc = { s.mbc with bankLo := BitVec.ofNat 8 (v.toNat % 32) }) ∧
       (0x4000 ≤ a.toNat → a.toNat < 0x6000 → t.mbc = { s.mbc with bankHi := BitVec.ofNat 2 v.toNat }) ∧
       (0x6000 ≤ a.toNat → ∃ b, (b = true ↔ v.toNat % 2 = 1) ∧ t.mbc = { s.mbc with mode := b })) ∧
     (s.cart.kind = .mbc2 →
       (a.toNat < 0x4000 → a.getLsbD 8 = false → ∃ b, (b = true ↔ en) ∧ t.mbc = { s.mbc with ramEnable := b }) ∧
       (a.toNat < 0x4000 → a.getLsbD 8 = true → t.mbc = { s.mbc with bankLo := BitVec.ofNat 8 (v.toNat % 16) }) ∧
       (0x4000 ≤ a.toNat → t.mbc = s.mbc)) ∧
     (s.cart.kind = .mbc3 →
       (a.toNat < 0x2000 → ∃ b, (b = true ↔ en) ∧ t.mbc = { s.mbc with ramEnable := b }) ∧
       (0x2000 ≤ a.toNat → a.toNat < 0x4000 → t.mbc = { s.mbc with bankLo := BitVec.ofNat 8 (v.toNat % 128) }) ∧
       (0x4000 ≤ a.toNat → a.toNat < 0x6000 → t.mbc = { s.mbc with ramSel := BitVec.ofNat 4 v.toNat }) ∧
       (0x6000 ≤ a.toNat → t.mbc = s.mbc)) ∧
     (s.cart.kind = .mbc5 →
       (a.toNat < 0x2000 → ∃ b, (b = true ↔ en) ∧ t.mbc = { s.mbc with ramEnable := b }) ∧
       (0x2000 ≤ a.toNat → a.toNat < 0x3000 → t.mbc = { s.mbc with bankLo := v }) ∧
       (0x3000 ≤ a.toNat → a.toNat < 0x4000 → t.mbc = { s.mbc with bankHi := BitVec.ofNat 2 (v.toNat % 2) }) ∧
       (0x4000 ≤ a.toNat → a.toNat < 0x6000 → t.mbc = { s.mbc with ramSel := BitVec.ofNat 4 v.toNat }) ∧
       (0x6000 ≤ a.toNat → t.mbc = s.mbc)))

/-- R66, R68, R69, R71, R74, R70, R72, R126, R131, R136, R142, R147: the plain windows, VRAM, work RAM, OAM and HRAM, each a
byte of its memory in the bank the mode and the bank register give; the echo of C000-DDFF, the unusable window, and the window
of external RAM: gated or absent it reads 0xFF and discards writes; enabled it is the cell of the selected bank, MBC2's
nibble, or the selected clock register. (That the PPU locks nothing out is the spec's decision D29, SVBK's bank 0 its decision
D20, 0xFF D27, MBC1's bank D23, MBC2 D24, MBC3 D25, MBC5 D26.) -/
def Obligations.EchoUnusableExternalRam : Prop :=
  ∀ (s : State) (a : Word) (v : Byte),
    (let m := (s.write a v).mem
     (0x8000 ≤ a.toNat → a.toNat < 0xA000 →
       (let i := 8192 * (if s.cart.cgbMode then s.mem.vbk.toNat else 0) + (a.toNat - 0x8000)
        s.read a = s.mem.vram.read i ∧ s.write a v = { s with mem := { s.mem with vram := m.vram } } ∧
        CellStores s.mem.vram m.vram i v)) ∧
     (0xC000 ≤ a.toNat → a.toNat < 0xD000 →
       (let i := a.toNat - 0xC000
        s.read a = s.mem.wram.read i ∧ s.write a v = { s with mem := { s.mem with wram := m.wram } } ∧
        CellStores s.mem.wram m.wram i v)) ∧
     (0xD000 ≤ a.toNat → a.toNat < 0xE000 →
       (let bank := if s.cart.cgbMode = true ∧ s.mem.svbk ≠ 0#3 then s.mem.svbk.toNat else 1
        let i := 4096 * bank + (a.toNat - 0xD000)
        s.read a = s.mem.wram.read i ∧ s.write a v = { s with mem := { s.mem with wram := m.wram } } ∧
        CellStores s.mem.wram m.wram i v)) ∧
     (0xFE00 ≤ a.toNat → a.toNat < 0xFEA0 →
       (let i := a.toNat - 0xFE00
        s.read a = s.mem.oam.read i ∧ s.write a v = { s with mem := { s.mem with oam := m.oam } } ∧
        CellStores s.mem.oam m.oam i v)) ∧
     (0xFF80 ≤ a.toNat → a.toNat < 0xFFFF →
       (let i := a.toNat - 0xFF80
        s.read a = s.mem.hram.read i ∧ s.write a v = { s with mem := { s.mem with hram := m.hram } } ∧
        CellStores s.mem.hram m.hram i v))) ∧
    (0xE000 ≤ a.toNat → a.toNat < 0xFE00 →
      s.read a = s.read (a - 0x2000#16) ∧ s.write a v = s.write (a - 0x2000#16) v) ∧
    (0xFEA0 ≤ a.toNat → a.toNat < 0xFF00 → s.read a = 0xFF#8 ∧ s.write a v = s) ∧
    (0xA000 ≤ a.toNat → a.toNat < 0xC000 →
      (let t := s.write a v
       let off := a.toNat - 0xA000
       let sel := s.mbc.ramSel.toNat
       let absent := s.read a = 0xFF#8 ∧ t = s
       let cell := fun i => s.read a = s.mbc.eram.read i ∧ EramStores s t i v
       (s.mbc.ramEnable = false ∨ s.cart.kind = .none → absent) ∧
       (s.mbc.ramEnable = true → s.cart.kind = .mbc1 →
         (s.cart.ramBanks = 0 → absent) ∧
         (0 < s.cart.ramBanks → s.mbc.mode = false → cell off) ∧
         (0 < s.cart.ramBanks → s.mbc.mode = true → cell (8192 * (s.mbc.bankHi.toNat % s.cart.ramBanks) + off))) ∧
       (s.mbc.ramEnable = true → s.cart.kind = .mbc2 →
         s.read a = 0xF0#8 ||| s.mbc.eram.read (off % 512) ∧
         EramStores s t (off % 512) (BitVec.ofNat 8 (v.toNat % 16))) ∧
       (s.mbc.ramEnable = true → s.cart.kind = .mbc3 →
         (sel < 4 → s.cart.ramBanks = 0 → absent) ∧
         (sel < 4 → 0 < s.cart.ramBanks → cell (8192 * (sel % s.cart.ramBanks) + off)) ∧
         (4 ≤ sel → sel < 8 ∨ 12 < sel ∨ s.cart.hasRtc = false → absent) ∧
         (s.cart.hasRtc = true →
           (sel = 8 → s.read a = s.mbc.rtc.seconds ∧
             t = { s with mbc := { s.mbc with rtc := { s.mbc.rtc with seconds := v } } }) ∧
           (sel = 9 → s.read a = s.mbc.rtc.minutes ∧
             t = { s with mbc := { s.mbc with rtc := { s.mbc.rtc with minutes := v } } }) ∧
           (sel = 10 → s.read a = s.mbc.rtc.hours ∧
             t = { s with mbc := { s.mbc with rtc := { s.mbc.rtc with hours := v } } }) ∧
           (sel = 11 → s.read a = s.mbc.rtc.dayLow ∧
             t = { s with mbc := { s.mbc with rtc := { s.mbc.rtc with dayLow := v } } }) ∧
           (sel = 12 → s.read a = s.mbc.rtc.dayHigh ∧
             t = { s with mbc := { s.mbc with rtc := { s.mbc.rtc with dayHigh := v } } }))) ∧
       (s.mbc.ramEnable = true → s.cart.kind = .mbc5 →
         (s.cart.ramBanks = 0 → absent) ∧
         (0 < s.cart.ramBanks → cell (8192 * (sel % s.cart.ramBanks) + off)))))

/-- R494, R80, R93, R37, R43, R396, R424, R462: the registers of FF00-FF7F and FFFF. Those whose writes are ignored or partly
ignored, by the whole state they leave; those a write stores whole and the storage bytes, which read back; what DIV, LY, DMA,
P1 and STAT read; the registers of CGB mode, which in DMG mode read 0xFF and discard writes: a write of VBK or SVBK selects
the bank that 8000-9FFF or D000-DFFF then shows, the palette ports store a byte and step their index, HDMA1 to HDMA4 set the
addresses. (The addresses are the spec's decision D16, P1's bits and the serial port D18, STAT's fields and mode D30, the
discarded LY D29, the bits that read 1 D15, TAC's layout D12, plain TIMA and TMA D14, the storage bytes D17 and log entry 8,
DMG mode D19, SVBK's bank 0 D20, HDMA's registers D31.) -/
def Obligations.PartialWrites : Prop :=
  ∀ (s : State) (v : Byte),
    s.write 0xFF04#16 v = { s with timer := { s.timer with div := 0#8, divSub := 0 } } ∧
    s.write 0xFF44#16 v = s ∧
    s.write 0xFF41#16 v = { s with ppu := { s.ppu with statSel := BitVec.ofNat 4 (v.toNat / 8) } } ∧
    s.write 0xFF0F#16 v = { s with irq := { s.irq with flags := BitVec.ofNat 5 v.toNat } } ∧
    s.write 0xFF07#16 v = { s with timer := { s.timer with tac := BitVec.ofNat 3 v.toNat } } ∧
    s.write 0xFF00#16 v = { s with joypad := { s.joypad with select := BitVec.ofNat 2 (v.toNat / 16) } } ∧
    s.read 0xFF0F#16 = 0xE0#8 ||| s.irq.flags.setWidth 8 ∧ s.read 0xFF07#16 = 0xF8#8 ||| s.timer.tac.setWidth 8 ∧
    PlainRegister s 0xFFFF#16 v s.irq.enable { s with irq := { s.irq with enable := v } } ∧
    s.read 0xFF04#16 = s.timer.div ∧ s.read 0xFF44#16 = s.ppu.ly ∧ s.read 0xFF46#16 = s.ppu.dma ∧
    P1Reads s.joypad (s.read 0xFF00#16) ∧
    (s.read 0xFF41#16).toNat = 128 + 8 * s.ppu.statSel.toNat + 4 * s.ppu.statCoinc.toNat +
      modeOf s.ppu.ly.toNat s.ppu.acc ∧
    PlainRegister s 0xFF01#16 v s.serial.sb { s with serial := { s.serial with sb := v } } ∧
    PlainRegister s 0xFF02#16 v s.serial.sc { s with serial := { s.serial with sc := v } } ∧
    PlainRegister s 0xFF05#16 v s.timer.tima { s with timer := { s.timer with tima := v } } ∧
    PlainRegister s 0xFF06#16 v s.timer.tma { s with timer := { s.timer with tma := v } } ∧
    PlainRegister s 0xFF40#16 v s.ppu.lcdc { s with ppu := { s.ppu with lcdc := v } } ∧
    PlainRegister s 0xFF42#16 v s.ppu.scy { s with ppu := { s.ppu with scy := v } } ∧
    PlainRegister s 0xFF43#16 v s.ppu.scx { s with ppu := { s.ppu with scx := v } } ∧
    PlainRegister s 0xFF45#16 v s.ppu.lyc { s with ppu := { s.ppu with lyc := v } } ∧
    PlainRegister s 0xFF47#16 v s.ppu.bgp { s with ppu := { s.ppu with bgp := v } } ∧
    PlainRegister s 0xFF48#16 v s.ppu.obp0 { s with ppu := { s.ppu with obp0 := v } } ∧
    PlainRegister s 0xFF49#16 v s.ppu.obp1 { s with ppu := { s.ppu with obp1 := v } } ∧
    PlainRegister s 0xFF4A#16 v s.ppu.wy { s with ppu := { s.ppu with wy := v } } ∧
    PlainRegister s 0xFF4B#16 v s.ppu.wx { s with ppu := { s.ppu with wx := v } } ∧
    (∀ a : Word, 0xFF00 ≤ a.toNat → a.toNat < 0xFF80 → a ∉ namedRegisters →
      (let t := s.write a v
       t = { s with mem := { s.mem with io := t.mem.io } } ∧ (s.MemoryOk → t.read a = v) ∧
       ∀ b, b ≠ a → t.read b = s.read b)) ∧
    (s.cart.cgbMode = false →
      ∀ a ∈ ([0xFF4F#16, 0xFF51#16, 0xFF52#16, 0xFF53#16, 0xFF54#16, 0xFF55#16, 0xFF68#16, 0xFF69#16, 0xFF6A#16,
        0xFF6B#16, 0xFF70#16] : List Word), s.read a = 0xFF#8 ∧ s.write a v = s) ∧
    (s.cart.cgbMode = true →
      (let t := s.write 0xFF4F#16 v
       t = { s with mem := { s.mem with vbk := BitVec.ofNat 1 v.toNat } } ∧
       t.read 0xFF4F#16 = BitVec.ofNat 8 (0xFE + v.toNat % 2) ∧
       ∀ a : Word, 0x8000 ≤ a.toNat → a.toNat < 0xA000 →
         t.read a = s.mem.vram.read (8192 * (v.toNat % 2) + (a.toNat - 0x8000))) ∧
      (let t := s.write 0xFF70#16 v
       t = { s with mem := { s.mem with svbk := BitVec.ofNat 3 v.toNat } } ∧
       t.read 0xFF70#16 = BitVec.ofNat 8 (0xF8 + v.toNat % 8) ∧
       ∀ a : Word, 0xD000 ≤ a.toNat → a.toNat < 0xE000 →
         t.read a = s.mem.wram.read (4096 * (if v.toNat % 8 = 0 then 1 else v.toNat % 8) + (a.toNat - 0xD000))) ∧
      (∃ b, (b = true ↔ 128 ≤ v.toNat) ∧
        s.write 0xFF68#16 v = { s with ppu := { s.ppu with
          bgPal := { s.ppu.bgPal with index := BitVec.ofNat 6 v.toNat, autoInc := b } } } ∧
        s.write 0xFF6A#16 v = { s with ppu := { s.ppu with
          objPal := { s.ppu.objPal with index := BitVec.ofNat 6 v.toNat, autoInc := b } } } ∧
        (s.write 0xFF68#16 v).read 0xFF68#16 = v ||| 0x40#8 ∧ (s.write 0xFF6A#16 v).read 0xFF6A#16 = v ||| 0x40#8) ∧
      (s.read 0xFF69#16 = s.ppu.bgPal.cells.read s.ppu.bgPal.index.toNat ∧
        ∃ q, PaletteStores s.ppu.bgPal q v ∧ s.write 0xFF69#16 v = { s with ppu := { s.ppu with bgPal := q } }) ∧
      (s.read 0xFF6B#16 = s.ppu.objPal.cells.read s.ppu.objPal.index.toNat ∧
        ∃ q, PaletteStores s.ppu.objPal q v ∧ s.write 0xFF6B#16 v = { s with ppu := { s.ppu with objPal := q } }) ∧
      (∃ src dst src' dst' : Word,
        src.toNat = 256 * v.toNat + s.hdma.src.toNat % 256 ∧
        src'.toNat = s.hdma.src.toNat / 256 * 256 + v.toNat / 16 * 16 ∧
        dst.toNat = 0x8000 + 256 * (v.toNat % 32) + s.hdma.dst.toNat % 256 ∧
        dst'.toNat = s.hdma.dst.toNat / 256 * 256 + v.toNat / 16 * 16 ∧
        s.write 0xFF51#16 v = { s with hdma := { s.hdma with src := src } } ∧
        s.write 0xFF52#16 v = { s with hdma := { s.hdma with src := src' } } ∧
        s.write 0xFF53#16 v = { s with hdma := { s.hdma with dst := dst } } ∧
        s.write 0xFF54#16 v = { s with hdma := { s.hdma with dst := dst' } }) ∧
      ∀ a ∈ ([0xFF51#16, 0xFF52#16, 0xFF53#16, 0xFF54#16] : List Word), s.read a = 0xFF#8)

/-- R47, R65, R156: no step changes a byte of ROM, the configuration derived from it, or a parameter. -/
def Obligations.CartridgeNeverChanges : Prop :=
  ∀ s t : State, step s = .next t → t.cart = s.cart ∧ t.config = s.config

/-- R160, R161: with a battery, saving and loading the blob into a fresh machine with the same cartridge gives the same
external RAM, where that RAM is as large as the cartridge says; without one both fail and say so. -/
def Obligations.SaveRoundTrip : Prop :=
  ∀ s : State, s.MemoryOk → (∀ c ∈ s.mbc.eram, c.1 < s.cart.eramBytes) →
    (s.cart.kind = .mbc2 → ∀ c ∈ s.mbc.eram, c.2.toNat < 16) →
    (s.cart.hasBattery = true → ∃ blob, s.saveRam = .ok blob ∧ blob.length = s.cart.eramBytes ∧
      ∀ config, ∃ t, (State.powerOn config s.cart []).loadRam (some blob) = .ok t ∧ t.mbc.eram = s.mbc.eram) ∧
    (s.cart.hasBattery = false → s.saveRam = .error .noBattery ∧ ∀ blob, s.loadRam blob = .error .noBattery)

/-! ### Reset and invariants -/

/-- R481, every row: the reset values, for every parameter, cartridge and external RAM. What the memories and the colour
palettes hold is the parameter INIT_MEMORY (R482); in `State.reset` they read 0x00, the spec's default (decision D37; log
entry 1). Most values are the spec's decision D36, the clock's zeros follow its conflict C7. -/
def Obligations.ResetValues : Prop :=
  (∀ (config : Config) (cart : Cartridge) (eram : Memory),
    (let s := State.powerOn config cart eram
     let blank : Pixel := if cart.cgbMode then .rgb 0xFF#8 0xFF#8 0xFF#8 else .shade 0#2
     s.cpu = { a := if cart.cgbMode then 0x11#8 else 0x01#8, f := 0xB0#8, b := 0x00#8, c := 0x13#8, d := 0x00#8, e := 0xD8#8
               h := 0x01#8, l := 0x4D#8, sp := 0xFFFE#16, pc := 0x0100#16
               ime := false, imePending := false, halted := false, faulted := none } ∧
     s.carryCycles = 0 ∧ s.irq = { flags := 0#5, enable := 0#8 } ∧
     s.timer = { div := 0#8, divSub := 0, tima := 0#8, tma := 0#8, tac := 0#3, timaSub := 0 } ∧
     s.joypad = { select := 0#2, buttons := { right := false, left := false, up := false, down := false
                                              a := false, b := false, select := false, start := false } } ∧
     s.read 0xFF00#16 = 0xCF#8 ∧ s.serial = { sb := 0#8, sc := 0#8 } ∧
     s.mem = { vram := config.initMemory.vram, wram := config.initMemory.wram, oam := config.initMemory.oam
               hram := config.initMemory.hram, io := config.initMemory.io, vbk := 0#1, svbk := 0#3 } ∧
     s.ppu.ly = 0#8 ∧ s.ppu.acc = 0 ∧ s.ppu.lyc = 0#8 ∧ s.ppu.lcdc = 0x91#8 ∧ s.ppu.statSel = 0#4 ∧
     s.ppu.statCoinc = true ∧ s.read 0xFF41#16 = 0x86#8 ∧
     s.ppu.scy = 0#8 ∧ s.ppu.scx = 0#8 ∧ s.ppu.wy = 0#8 ∧ s.ppu.wx = 0#8 ∧
     s.ppu.bgp = 0xFC#8 ∧ s.ppu.obp0 = 0xFF#8 ∧ s.ppu.obp1 = 0xFF#8 ∧
     s.ppu.bgPal = { cells := config.initMemory.bgPal, index := 0#6, autoInc := false } ∧
     s.ppu.objPal = { cells := config.initMemory.objPal, index := 0#6, autoInc := false } ∧ s.ppu.dma = 0#8 ∧
     s.ppu.raster = List.replicate 144 (List.replicate 160 blank) ∧
     s.ppu.published = List.replicate 144 (List.replicate 160 blank) ∧
     s.ppu.tag = List.replicate 160 .clear ∧ s.ppu.bgIdx = List.replicate 160 0#2 ∧
     s.hdma = { src := 0x0000#16, dst := 0x8000#16, len := 0x7F#7, active := false } ∧
     s.mbc = { ramEnable := false, bankLo := if cart.kind = .mbc5 then 1#8 else 0#8, bankHi := 0#2, mode := false
               ramSel := 0#4
               rtc := { seconds := 0#8, minutes := 0#8, hours := 0#8, dayLow := 0#8, dayHigh := 0#8 }
               eram := eram } ∧
     s.cart = cart ∧ s.config = config)) ∧
  ∀ i, State.reset.mem.vram.read i = 0#8 ∧ State.reset.mem.wram.read i = 0#8 ∧ State.reset.mem.oam.read i = 0#8 ∧
    State.reset.mem.hram.read i = 0#8 ∧ State.reset.mem.io.read i = 0#8 ∧ State.reset.ppu.bgPal.cells.read i = 0#8 ∧
    State.reset.ppu.objPal.cells.read i = 0#8 ∧ State.reset.mbc.eram.read i = 0#8

/-- The invariant holds after reset, where the image, the parameters' memories and the external RAM are canonical. -/
def Obligations.InvariantAtReset : Prop :=
  State.reset.Inv ∧
  ∀ (config : Config) (cart : Cartridge) (eram : Memory), cart.rom.wf → eram.wf → config.initMemory.vram.wf →
    config.initMemory.wram.wf → config.initMemory.oam.wf → config.initMemory.hram.wf → config.initMemory.io.wf →
    config.initMemory.bgPal.wf → config.initMemory.objPal.wf → (State.powerOn config cart eram).Inv

/-- Every step keeps the invariant: F's low nibble 0, every memory in its canonical form, LY a line and the accumulator
inside one, HDMA's addresses legal, a Faulted machine not halted. -/
def Obligations.InvariantKept : Prop := ∀ s t : State, s.Inv → step s = .next t → t.Inv

/-- R370: what a step that does not fault returns is a positive multiple of 4, where the open dispatch parameter is a multiple
of 4 and so were the carried cycles. -/
def Obligations.StepCountsAreMultiplesOfFour : Prop :=
  ∀ s t : State, step s = .next t → t.cpu.faulted = none → s.config.intDispatchCycles % 4 = 0 →
    s.carryCycles % 4 = 0 → 0 < t.cycles ∧ t.cycles % 4 = 0 ∧ t.carryCycles % 4 = 0
end

