-- ==== Sys2Proof/Laws/Memory.lean ====
section
/-! SUPPORT. The laws of `Memory`: every operation keeps the canonical form, a read after a write. -/

namespace Sys2Proof.Memory

theorem wf_nil : wf [] := ⟨List.Pairwise.nil, fun _ h => absurd h (List.not_mem_nil)⟩

/-- A cell of a written memory is an old one or the new one. -/
theorem mem_write {m : Memory} {i : Nat} {v : Byte} {c : Host.Cell} (h : c ∈ m.write i v) :
    c ∈ m ∨ (c = (i, v) ∧ v ≠ unlisted) := by
  induction m with
  | nil =>
    simp only [write] at h
    split at h
    · simp at h
    · rename_i hv; right; exact ⟨by simpa using h, hv⟩
  | cons p rest ih =>
    obtain ⟨k, w⟩ := p
    simp only [write] at h
    split at h
    · split at h
      · exact .inl h
      · rename_i hv
        rcases List.mem_cons.1 h with h | h
        · exact .inr ⟨h, hv⟩
        · exact .inl h
    · split at h
      · split at h
        · exact .inl (List.mem_cons_of_mem _ h)
        · rename_i hv
          rcases List.mem_cons.1 h with h | h
          · exact .inr ⟨h, hv⟩
          · exact .inl (List.mem_cons_of_mem _ h)
      · rcases List.mem_cons.1 h with h | h
        · exact .inl (h ▸ List.mem_cons_self)
        · rcases ih h with h | h
          · exact .inl (List.mem_cons_of_mem _ h)
          · exact .inr h

theorem wf_tail {p : Host.Cell} {m : Memory} (h : wf (p :: m)) : wf m :=
  ⟨(List.pairwise_cons.1 h.1).2, fun c hc => h.2 c (List.mem_cons_of_mem _ hc)⟩

/-- A write keeps the canonical form. -/
theorem wf_write {m : Memory} (h : m.wf) (i : Nat) (v : Byte) : (m.write i v).wf := by
  induction m with
  | nil =>
    simp only [write]
    split
    · exact wf_nil
    · rename_i hv; exact ⟨List.pairwise_singleton _ _, by simpa using hv⟩
  | cons p rest ih =>
    obtain ⟨k, w⟩ := p
    have hk := List.pairwise_cons.1 h.1
    simp only [write]
    split
    · rename_i hik
      split
      · exact h
      · rename_i hv
        refine ⟨List.pairwise_cons.2 ⟨?_, h.1⟩, ?_⟩
        · intro c hc
          rcases List.mem_cons.1 hc with rfl | hc
          · exact hik
          · exact Nat.lt_trans hik (hk.1 c hc)
        · intro c hc
          rcases List.mem_cons.1 hc with rfl | hc
          · exact hv
          · exact h.2 c hc
    · rename_i hik
      split
      · rename_i hik'
        split
        · exact wf_tail h
        · rename_i hv
          refine ⟨List.pairwise_cons.2 ⟨fun c hc => hik' ▸ hk.1 c hc, hk.2⟩, ?_⟩
          intro c hc
          rcases List.mem_cons.1 hc with rfl | hc
          · exact hv
          · exact h.2 c (List.mem_cons_of_mem _ hc)
      · rename_i hne
        refine ⟨List.pairwise_cons.2 ⟨?_, (ih (wf_tail h)).1⟩, ?_⟩
        · intro c hc
          rcases mem_write hc with hc | ⟨rfl, -⟩
          · exact hk.1 c hc
          · exact Nat.lt_of_le_of_ne (Nat.le_of_not_lt hik) (Ne.symm hne)
        · intro c hc
          rcases List.mem_cons.1 hc with rfl | hc
          · exact h.2 _ List.mem_cons_self
          · exact (ih (wf_tail h)).2 c hc

/-- A cell that is not listed reads as the fixed byte. -/
theorem read_of_forall_ne {m : Memory} {i : Nat} (h : ∀ c ∈ m, c.1 ≠ i) : m.read i = unlisted := by
  induction m with
  | nil => rfl
  | cons p rest ih =>
    obtain ⟨k, w⟩ := p
    have hk : k ≠ i := h (k, w) List.mem_cons_self
    simp only [read, if_neg hk]
    exact ih fun c hc => h c (List.mem_cons_of_mem _ hc)

/-- A write leaves every other cell alone. -/
theorem read_write_other (m : Memory) {i j : Nat} (v : Byte) (h : j ≠ i) : (m.write i v).read j = m.read j := by
  have hij : i ≠ j := Ne.symm h
  induction m with
  | nil =>
    simp only [write]
    split <;> simp [read, hij]
  | cons p rest ih =>
    obtain ⟨k, w⟩ := p
    simp only [write]
    split
    · split <;> simp [read, hij]
    · split
      · rename_i hik
        have hkj : k ≠ j := hik ▸ hij
        split <;> simp [read, hij, hkj]
      · simp only [read]
        split
        · rfl
        · exact ih

/-- A read after a write to the same cell. -/
theorem read_write_same {m : Memory} (h : m.wf) (i : Nat) (v : Byte) : (m.write i v).read i = v := by
  induction m with
  | nil =>
    simp only [write]
    split
    · rename_i hv; simp [read, hv]
    · simp [read]
  | cons p rest ih =>
    obtain ⟨k, w⟩ := p
    have hk := List.pairwise_cons.1 h.1
    simp only [write]
    split
    · rename_i hik
      split
      · rename_i hv
        rw [hv]
        refine read_of_forall_ne fun c hc => ?_
        rcases List.mem_cons.1 hc with rfl | hc
        · exact Nat.ne_of_gt hik
        · exact Nat.ne_of_gt (Nat.lt_trans hik (hk.1 c hc))
      · simp [read]
    · split
      · rename_i hik'
        split
        · rename_i hv
          rw [hv]
          exact read_of_forall_ne fun c hc => Nat.ne_of_gt (hik' ▸ hk.1 c hc)
        · simp [read]
      · rename_i hne
        simp only [read, if_neg (Ne.symm hne)]
        exact ih (wf_tail h)

theorem read_write {m : Memory} (h : m.wf) (i j : Nat) (v : Byte) :
    (m.write i v).read j = if j = i then v else m.read j := by
  split
  · rename_i hj; exact hj ▸ read_write_same h i v
  · rename_i hj; exact read_write_other m v hj

/-- Equal memories are equal data: two canonical memories that read alike are the same list. -/
theorem ext_of_read {m n : Memory} (hm : m.wf) (hn : n.wf) (h : ∀ i, m.read i = n.read i) : m = n := by
  induction m generalizing n with
  | nil =>
    cases n with
    | nil => rfl
    | cons p rest =>
      obtain ⟨k, w⟩ := p
      have := h k
      simp only [read] at this
      exact absurd this.symm (by simpa using hn.2 (k, w) List.mem_cons_self)
  | cons p rest ih =>
    obtain ⟨k, w⟩ := p
    have hw : w ≠ unlisted := hm.2 (k, w) List.mem_cons_self
    have hkm := List.pairwise_cons.1 hm.1
    cases n with
    | nil =>
      have := h k
      simp only [read] at this
      exact absurd (by simpa using this) hw
    | cons q rest' =>
      obtain ⟨k', w'⟩ := q
      have hw' : w' ≠ unlisted := hn.2 (k', w') List.mem_cons_self
      have hkn := List.pairwise_cons.1 hn.1
      have hkk : k = k' := by
        rcases Nat.lt_trichotomy k k' with hlt | heq | hgt
        · have hr := h k
          rw [read_of_forall_ne (m := (k', w') :: rest') (i := k)] at hr
          · simp [read] at hr; exact absurd hr hw
          · intro c hc
            rcases List.mem_cons.1 hc with rfl | hc
            · exact Nat.ne_of_gt hlt
            · exact Nat.ne_of_gt (Nat.lt_trans hlt (hkn.1 c hc))
        · exact heq
        · have hr := h k'
          rw [read_of_forall_ne (m := (k, w) :: rest) (i := k')] at hr
          · simp [read] at hr; exact absurd hr.symm hw'
          · intro c hc
            rcases List.mem_cons.1 hc with rfl | hc
            · exact Nat.ne_of_gt hgt
            · exact Nat.ne_of_gt (Nat.lt_trans hgt (hkm.1 c hc))
      subst hkk
      have hww : w = w' := by simpa [read] using h k
      subst hww
      congr 1
      refine ih (wf_tail hm) (wf_tail hn) fun i => ?_
      by_cases hi : k = i
      · subst hi
        rw [read_of_forall_ne fun c hc => Nat.ne_of_gt (hkm.1 c hc),
          read_of_forall_ne fun c hc => Nat.ne_of_gt (hkn.1 c hc)]
      · simpa [read, hi] using h i

/-- The cells of `ofBytes` lie from its first address on. -/
theorem mem_ofBytes {i : Nat} {bytes : List Byte} {c : Host.Cell} (h : c ∈ ofBytes i bytes) : i ≤ c.1 := by
  induction bytes generalizing i with
  | nil => simp [ofBytes] at h
  | cons b rest ih =>
    simp only [ofBytes] at h
    split at h
    · exact Nat.le_of_succ_le (ih h)
    · rcases List.mem_cons.1 h with rfl | h
      · exact Nat.le_refl _
      · exact Nat.le_of_succ_le (ih h)

/-- `ofBytes` gives a canonical memory. -/
theorem wf_ofBytes (i : Nat) (bytes : List Byte) : (ofBytes i bytes).wf := by
  induction bytes generalizing i with
  | nil => exact wf_nil
  | cons b rest ih =>
    simp only [ofBytes]
    split
    · exact ih _
    · rename_i hb
      refine ⟨List.pairwise_cons.2 ⟨fun c hc => mem_ofBytes hc, (ih _).1⟩, ?_⟩
      intro c hc
      rcases List.mem_cons.1 hc with rfl | hc
      · exact hb
      · exact (ih _).2 c hc

/-- Reading what `ofBytes` holds. -/
theorem read_ofBytes (i : Nat) (bytes : List Byte) (j : Nat) :
    (ofBytes i bytes).read j = if i ≤ j then bytes.getD (j - i) unlisted else unlisted := by
  induction bytes generalizing i j with
  | nil => simp [ofBytes, read]
  | cons b rest ih =>
    have hne : ∀ k, k ≠ i → ((ofBytes (i + 1) rest).read k
        = if i ≤ k then (b :: rest).getD (k - i) unlisted else unlisted) := by
      intro k hk
      rw [ih]
      by_cases hik : i + 1 ≤ k
      · rw [if_pos hik, if_pos (by omega), show k - i = (k - (i + 1)) + 1 by omega, List.getD_cons_succ]
      · rw [if_neg hik, if_neg (by omega)]
    by_cases hj : j = i
    · subst hj
      simp only [ofBytes]
      split
      · rename_i hb
        rw [ih, if_neg (by omega)]
        simp [hb]
      · simp [read]
    · simp only [ofBytes]
      split
      · exact hne j hj
      · simp only [read, if_neg (Ne.symm hj)]
        exact hne j hj

/-- `toBytes` lists the bytes in order. -/
theorem length_toBytes (m : Memory) (i n : Nat) : (m.toBytes i n).length = n := by
  induction n generalizing i with
  | zero => rfl
  | succ n ih => simp [toBytes, ih]

theorem getD_toBytes (m : Memory) (i n k : Nat) (h : k < n) : (m.toBytes i n).getD k unlisted = m.read (i + k) := by
  induction n generalizing i k with
  | zero => omega
  | succ n ih =>
    cases k with
    | zero => simp [toBytes]
    | succ k =>
      rw [toBytes, List.getD_cons_succ, ih _ _ (by omega)]
      congr 1
      omega

end Sys2Proof.Memory
end

