-- ==== Sys2Proof/Laws/State.lean ====
section
/-! SUPPORT. One lemma for each field under each named update of the state, and the spec lemmas of the CPU register
operations. -/

namespace Sys2Proof.Machine

namespace State

/-! ### `onCpu` -/

@[simp] theorem onCpu_cpu (s : State) (g : Cpu → Cpu) : (s.onCpu g).cpu = g s.cpu := rfl
@[simp] theorem onCpu_irq (s : State) (g : Cpu → Cpu) : (s.onCpu g).irq = s.irq := rfl
@[simp] theorem onCpu_timer (s : State) (g : Cpu → Cpu) : (s.onCpu g).timer = s.timer := rfl
@[simp] theorem onCpu_joypad (s : State) (g : Cpu → Cpu) : (s.onCpu g).joypad = s.joypad := rfl
@[simp] theorem onCpu_serial (s : State) (g : Cpu → Cpu) : (s.onCpu g).serial = s.serial := rfl
@[simp] theorem onCpu_mem (s : State) (g : Cpu → Cpu) : (s.onCpu g).mem = s.mem := rfl
@[simp] theorem onCpu_ppu (s : State) (g : Cpu → Cpu) : (s.onCpu g).ppu = s.ppu := rfl
@[simp] theorem onCpu_hdma (s : State) (g : Cpu → Cpu) : (s.onCpu g).hdma = s.hdma := rfl
@[simp] theorem onCpu_mbc (s : State) (g : Cpu → Cpu) : (s.onCpu g).mbc = s.mbc := rfl
@[simp] theorem onCpu_cart (s : State) (g : Cpu → Cpu) : (s.onCpu g).cart = s.cart := rfl
@[simp] theorem onCpu_config (s : State) (g : Cpu → Cpu) : (s.onCpu g).config = s.config := rfl
@[simp] theorem onCpu_carryCycles (s : State) (g : Cpu → Cpu) : (s.onCpu g).carryCycles = s.carryCycles := rfl
@[simp] theorem onCpu_cycles (s : State) (g : Cpu → Cpu) : (s.onCpu g).cycles = s.cycles := rfl

/-! ### `report` -/

@[simp] theorem report_cpu (s : State) (n : Nat) : (s.report n).cpu = s.cpu := rfl
@[simp] theorem report_irq (s : State) (n : Nat) : (s.report n).irq = s.irq := rfl
@[simp] theorem report_timer (s : State) (n : Nat) : (s.report n).timer = s.timer := rfl
@[simp] theorem report_joypad (s : State) (n : Nat) : (s.report n).joypad = s.joypad := rfl
@[simp] theorem report_serial (s : State) (n : Nat) : (s.report n).serial = s.serial := rfl
@[simp] theorem report_mem (s : State) (n : Nat) : (s.report n).mem = s.mem := rfl
@[simp] theorem report_ppu (s : State) (n : Nat) : (s.report n).ppu = s.ppu := rfl
@[simp] theorem report_hdma (s : State) (n : Nat) : (s.report n).hdma = s.hdma := rfl
@[simp] theorem report_mbc (s : State) (n : Nat) : (s.report n).mbc = s.mbc := rfl
@[simp] theorem report_cart (s : State) (n : Nat) : (s.report n).cart = s.cart := rfl
@[simp] theorem report_config (s : State) (n : Nat) : (s.report n).config = s.config := rfl
@[simp] theorem report_carryCycles (s : State) (n : Nat) : (s.report n).carryCycles = s.carryCycles := rfl
@[simp] theorem report_cycles (s : State) (n : Nat) : (s.report n).cycles = n := rfl

/-! ### `raise` -/

@[simp] theorem raise_cpu (s : State) (k : Fin 5) : (s.raise k).cpu = s.cpu := rfl
@[simp] theorem raise_irq (s : State) (k : Fin 5) : (s.raise k).irq = { s.irq with flags := s.irq.flags ||| (1#5 <<< k.val) } := rfl
@[simp] theorem raise_timer (s : State) (k : Fin 5) : (s.raise k).timer = s.timer := rfl
@[simp] theorem raise_joypad (s : State) (k : Fin 5) : (s.raise k).joypad = s.joypad := rfl
@[simp] theorem raise_serial (s : State) (k : Fin 5) : (s.raise k).serial = s.serial := rfl
@[simp] theorem raise_mem (s : State) (k : Fin 5) : (s.raise k).mem = s.mem := rfl
@[simp] theorem raise_ppu (s : State) (k : Fin 5) : (s.raise k).ppu = s.ppu := rfl
@[simp] theorem raise_hdma (s : State) (k : Fin 5) : (s.raise k).hdma = s.hdma := rfl
@[simp] theorem raise_mbc (s : State) (k : Fin 5) : (s.raise k).mbc = s.mbc := rfl
@[simp] theorem raise_cart (s : State) (k : Fin 5) : (s.raise k).cart = s.cart := rfl
@[simp] theorem raise_config (s : State) (k : Fin 5) : (s.raise k).config = s.config := rfl
@[simp] theorem raise_carryCycles (s : State) (k : Fin 5) : (s.raise k).carryCycles = s.carryCycles := rfl
@[simp] theorem raise_cycles (s : State) (k : Fin 5) : (s.raise k).cycles = s.cycles := rfl

/-! ### `setOam` -/

@[simp] theorem setOam_cpu (s : State) (i : Nat) (v : Byte) : (s.setOam i v).cpu = s.cpu := rfl
@[simp] theorem setOam_irq (s : State) (i : Nat) (v : Byte) : (s.setOam i v).irq = s.irq := rfl
@[simp] theorem setOam_timer (s : State) (i : Nat) (v : Byte) : (s.setOam i v).timer = s.timer := rfl
@[simp] theorem setOam_joypad (s : State) (i : Nat) (v : Byte) : (s.setOam i v).joypad = s.joypad := rfl
@[simp] theorem setOam_serial (s : State) (i : Nat) (v : Byte) : (s.setOam i v).serial = s.serial := rfl
@[simp] theorem setOam_mem (s : State) (i : Nat) (v : Byte) : (s.setOam i v).mem = { s.mem with oam := s.mem.oam.write i v } := rfl
@[simp] theorem setOam_ppu (s : State) (i : Nat) (v : Byte) : (s.setOam i v).ppu = s.ppu := rfl
@[simp] theorem setOam_hdma (s : State) (i : Nat) (v : Byte) : (s.setOam i v).hdma = s.hdma := rfl
@[simp] theorem setOam_mbc (s : State) (i : Nat) (v : Byte) : (s.setOam i v).mbc = s.mbc := rfl
@[simp] theorem setOam_cart (s : State) (i : Nat) (v : Byte) : (s.setOam i v).cart = s.cart := rfl
@[simp] theorem setOam_config (s : State) (i : Nat) (v : Byte) : (s.setOam i v).config = s.config := rfl
@[simp] theorem setOam_carryCycles (s : State) (i : Nat) (v : Byte) : (s.setOam i v).carryCycles = s.carryCycles := rfl
@[simp] theorem setOam_cycles (s : State) (i : Nat) (v : Byte) : (s.setOam i v).cycles = s.cycles := rfl

/-! ### `setVram` -/

@[simp] theorem setVram_cpu (s : State) (i : Nat) (v : Byte) : (s.setVram i v).cpu = s.cpu := rfl
@[simp] theorem setVram_irq (s : State) (i : Nat) (v : Byte) : (s.setVram i v).irq = s.irq := rfl
@[simp] theorem setVram_timer (s : State) (i : Nat) (v : Byte) : (s.setVram i v).timer = s.timer := rfl
@[simp] theorem setVram_joypad (s : State) (i : Nat) (v : Byte) : (s.setVram i v).joypad = s.joypad := rfl
@[simp] theorem setVram_serial (s : State) (i : Nat) (v : Byte) : (s.setVram i v).serial = s.serial := rfl
@[simp] theorem setVram_mem (s : State) (i : Nat) (v : Byte) : (s.setVram i v).mem = { s.mem with vram := s.mem.vram.write i v } := rfl
@[simp] theorem setVram_ppu (s : State) (i : Nat) (v : Byte) : (s.setVram i v).ppu = s.ppu := rfl
@[simp] theorem setVram_hdma (s : State) (i : Nat) (v : Byte) : (s.setVram i v).hdma = s.hdma := rfl
@[simp] theorem setVram_mbc (s : State) (i : Nat) (v : Byte) : (s.setVram i v).mbc = s.mbc := rfl
@[simp] theorem setVram_cart (s : State) (i : Nat) (v : Byte) : (s.setVram i v).cart = s.cart := rfl
@[simp] theorem setVram_config (s : State) (i : Nat) (v : Byte) : (s.setVram i v).config = s.config := rfl
@[simp] theorem setVram_carryCycles (s : State) (i : Nat) (v : Byte) : (s.setVram i v).carryCycles = s.carryCycles := rfl
@[simp] theorem setVram_cycles (s : State) (i : Nat) (v : Byte) : (s.setVram i v).cycles = s.cycles := rfl

/-! ### Reading depends on no CPU register -/

@[simp] theorem read_onCpu (s : State) (g : Cpu → Cpu) (a : Word) : (s.onCpu g).read a = s.read a := rfl

@[simp] theorem read_report (s : State) (n : Nat) (a : Word) : (s.report n).read a = s.read a := rfl

@[simp] theorem route_onCpu (s : State) (g : Cpu → Cpu) (a : Word) : (s.onCpu g).route a = s.route a := rfl

@[simp] theorem route_report (s : State) (n : Nat) (a : Word) : (s.report n).route a = s.route a := rfl

@[simp] theorem read16_onCpu (s : State) (g : Cpu → Cpu) (a : Word) : (s.onCpu g).read16 a = s.read16 a := rfl

@[simp] theorem onCpu_onCpu (s : State) (g h : Cpu → Cpu) : (s.onCpu g).onCpu h = s.onCpu (h ∘ g) := rfl

@[simp] theorem popSp_cpu (s : State) : s.popSp.cpu = { s.cpu with sp := s.cpu.sp + 2#16 } := rfl

@[simp] theorem jump_cpu (s : State) (a : Word) : (s.jump a).cpu = { s.cpu with pc := a } := rfl

@[simp] theorem withF_cpu (s : State) (f : Byte) : (s.withF f).cpu = { s.cpu with f := f } := rfl

end State

/-! ### Words and register pairs -/

@[simp] theorem ofBytes_hi_lo (w : Word) : Word.ofBytes w.hi w.lo = w := by
  apply BitVec.eq_of_toNat_eq
  simp only [Word.ofBytes, Word.hi, Word.lo, BitVec.toNat_append, BitVec.extractLsb'_toNat, Nat.shiftRight_zero]
  rw [← Nat.shiftLeft_add_eq_or_of_lt (by omega), Nat.shiftLeft_eq, Nat.shiftRight_eq_div_pow]
  have := w.isLt
  omega

@[simp] theorem ofBytes_lo (h l : Byte) : (Word.ofBytes h l).lo = l := by
  apply BitVec.eq_of_toNat_eq
  simp only [Word.ofBytes, Word.lo, BitVec.toNat_append, BitVec.extractLsb'_toNat, Nat.shiftRight_zero]
  rw [← Nat.shiftLeft_add_eq_or_of_lt l.isLt, Nat.shiftLeft_eq]
  have := l.isLt
  omega

@[simp] theorem ofBytes_hi (h l : Byte) : (Word.ofBytes h l).hi = h := by
  apply BitVec.eq_of_toNat_eq
  simp only [Word.ofBytes, Word.hi, BitVec.toNat_append, BitVec.extractLsb'_toNat]
  rw [← Nat.shiftLeft_add_eq_or_of_lt l.isLt, Nat.shiftLeft_eq, Nat.shiftRight_eq_div_pow]
  have := l.isLt
  have := h.isLt
  omega

namespace Cpu

@[simp] theorem bc_setBC (c : Cpu) (v : Word) : (c.setBC v).bc = v := ofBytes_hi_lo v
@[simp] theorem de_setDE (c : Cpu) (v : Word) : (c.setDE v).de = v := ofBytes_hi_lo v
@[simp] theorem hl_setHL (c : Cpu) (v : Word) : (c.setHL v).hl = v := ofBytes_hi_lo v

/-- A pair reads back what was written to it. -/
@[simp] theorem getRp_setRp (c : Cpu) (p : Rp) (v : Word) : (c.setRp p v).getRp p = v := by
  cases p <;> simp [setRp, getRp]

/-- Writing one pair leaves the others. -/
theorem getRp_setRp_of_ne (c : Cpu) {p q : Rp} (v : Word) (h : q ≠ p) : (c.setRp p v).getRp q = c.getRp q := by
  cases p <;> cases q <;> first | rfl | exact absurd rfl h

end Cpu

/-! ### Results -/

@[simp] theorem done_eq (s : State) (n : Nat) : done s n = .next (s.report n) := rfl

@[simp] theorem mapNext_next (g : State → State) (s : State) : mapNext g (.next s) = .next (g s) := rfl

end Sys2Proof.Machine
end

