-- ==== Sys2Proof/Laws/Ops.lean ====
section
/-! SUPPORT. What each operation of Machine/Ops.lean can do: the fields a bus write never touches, the canonical form it
keeps, what it leaves readable, and the stack and interrupt operations. -/

namespace Sys2Proof.Machine

/-- `t` has the CPU, cartridge, parameters and count of `s`. -/
structure SameCore (s t : State) : Prop where
  cpu    : t.cpu = s.cpu
  cart   : t.cart = s.cart
  config : t.config = s.config
  cycles : t.cycles = s.cycles

/-- `t` has the PPU's line counters of `s`. -/
structure SameLine (s t : State) : Prop where
  ly   : t.ppu.ly = s.ppu.ly
  acc  : t.ppu.acc = s.ppu.acc

namespace SameCore

theorem refl (s : State) : SameCore s s := ⟨rfl, rfl, rfl, rfl⟩

theorem tr {s t u : State} (h : SameCore s t) (k : SameCore t u) : SameCore s u :=
  ⟨k.cpu.trans h.cpu, k.cart.trans h.cart, k.config.trans h.config, k.cycles.trans h.cycles⟩

end SameCore

namespace SameLine

theorem refl (s : State) : SameLine s s := ⟨rfl, rfl⟩

theorem tr {s t u : State} (h : SameLine s t) (k : SameLine t u) : SameLine s u :=
  ⟨k.ly.trans h.ly, k.acc.trans h.acc⟩

end SameLine

namespace State

/-! ### DMA -/

/-- OAM DMA changes OAM alone, whatever length. -/
theorem oamCopy_eq (src : Word) (n : Nat) (s : State) :
    ∃ oam, oamCopy src n s = { s with mem := { s.mem with oam := oam } } ∧ (s.mem.oam.wf → oam.wf) := by
  induction n with
  | zero => exact ⟨s.mem.oam, rfl, id⟩
  | succ n ih =>
    obtain ⟨oam, h, hw⟩ := ih
    simp only [oamCopy, h]
    exact ⟨_, rfl, fun h0 => Memory.wf_write (hw h0) _ _⟩

/-- A chunk copy changes VRAM alone. -/
theorem chunkCopy_eq (src dst : Word) (n : Nat) (s : State) :
    ∃ vram, chunkCopy src dst n s = { s with mem := { s.mem with vram := vram } } ∧ (s.mem.vram.wf → vram.wf) := by
  induction n with
  | zero => exact ⟨s.mem.vram, rfl, id⟩
  | succ n ih =>
    obtain ⟨vram, h, hw⟩ := ih
    simp only [chunkCopy, h]
    exact ⟨_, rfl, fun h0 => Memory.wf_write (hw h0) _ _⟩

/-- The legal pairs of HDMA addresses (R45). -/
abbrev HdmaPair (src dst : Word) : Prop :=
  src.toNat % 16 = 0 ∧ dst.toNat % 16 = 0 ∧ 0x8000 ≤ dst.toNat ∧ dst.toNat ≤ 0x9FF0

/-- A byte masked with 0xF0 is a multiple of 16. -/
theorem mask_hi_mod (v : Byte) : (v &&& 0xF0#8).toNat % 16 = 0 := by
  have h : (v &&& 0xF0#8) &&& 0x0F#8 = 0x00#8 := by rw [BitVec.and_assoc]; simp
  have h' := congrArg BitVec.toNat h
  rw [BitVec.toNat_and, show (0x0F#8).toNat = 2 ^ 4 - 1 by rfl, Nat.and_two_pow_sub_one_eq_mod] at h'
  simpa using h'

/-- A word masked with 0x1FF0 is a multiple of 16 up to 0x1FF0. -/
theorem mask_dst_mod (w : Word) : (w &&& 0x1FF0#16).toNat % 16 = 0 ∧ (w &&& 0x1FF0#16).toNat ≤ 0x1FF0 := by
  constructor
  · have h : (w &&& 0x1FF0#16) &&& 0x000F#16 = 0x0000#16 := by rw [BitVec.and_assoc]; simp
    have h' := congrArg BitVec.toNat h
    rw [BitVec.toNat_and, show (0x000F#16).toNat = 2 ^ 4 - 1 by rfl, Nat.and_two_pow_sub_one_eq_mod] at h'
    simpa using h'
  · rw [BitVec.toNat_and]; exact Nat.and_le_right

/-- The addresses of HDMA after a chunk are legal again (R465). -/
theorem hdmaPair_next {src : Word} (dst : Word) (h : src.toNat % 16 = 0) :
    HdmaPair (src + 16#16) (0x8000#16 ||| ((dst + 16#16) &&& 0x1FF0#16)) := by
  obtain ⟨h1, h2⟩ := mask_dst_mod (dst + 16#16)
  generalize (dst + 16#16) &&& 0x1FF0#16 = y at h1 h2
  have hy : (0x8000#16 ||| y).toNat = 0x8000 + y.toNat := by
    rw [BitVec.toNat_or, show (0x8000#16).toNat = 1 <<< 15 by rfl, ← Nat.shiftLeft_add_eq_or_of_lt (by omega)]
    rfl
  have hs : (src + 16#16).toNat = (src.toNat + 16) % 2 ^ 16 := BitVec.toNat_add ..
  refine ⟨?_, ?_, ?_, ?_⟩ <;> omega

/-- What one HDMA chunk does (R465): VRAM, the two addresses, the carried cycles. -/
theorem hdmaCopyChunk_eq (s : State) :
    ∃ vram, s.hdmaCopyChunk = { s with
        mem := { s.mem with vram := vram }
        hdma := { s.hdma with
          src := s.hdma.src + 16#16
          dst := 0x8000#16 ||| ((s.hdma.dst + 16#16) &&& 0x1FF0#16) }
        carryCycles := s.carryCycles + hdmaChunkCycles } ∧ (s.mem.vram.wf → vram.wf) := by
  obtain ⟨vram, h, hw⟩ := chunkCopy_eq s.hdma.src s.hdma.dst hdmaChunkBytes s
  refine ⟨vram, ?_, hw⟩
  simp only [hdmaCopyChunk, h]

/-- What `n` chunks do: VRAM, the HDMA addresses, eight carried cycles each. -/
theorem copyChunks_eq (n : Nat) (s : State) :
    ∃ vram src dst carry, copyChunks n s = { s with
        mem := { s.mem with vram := vram }
        hdma := { s.hdma with src := src, dst := dst }
        carryCycles := carry } ∧ carry = s.carryCycles + hdmaChunkCycles * n ∧ (s.mem.vram.wf → vram.wf) ∧
      (s.HdmaOk → HdmaPair src dst) := by
  induction n generalizing s with
  | zero => exact ⟨s.mem.vram, s.hdma.src, s.hdma.dst, s.carryCycles, rfl, rfl, id, id⟩
  | succ n ih =>
    obtain ⟨vram, hc, hw⟩ := hdmaCopyChunk_eq s
    rw [copyChunks, hc]
    obtain ⟨vram', src, dst, carry, h, hk, hw', hh⟩ := ih { s with
        mem := { s.mem with vram := vram }
        hdma := { s.hdma with
          src := s.hdma.src + 16#16
          dst := 0x8000#16 ||| ((s.hdma.dst + 16#16) &&& 0x1FF0#16) }
        carryCycles := s.carryCycles + hdmaChunkCycles }
    rw [h]
    refine ⟨vram', src, dst, carry, rfl, ?_, fun h0 => hw' (hw h0), fun h0 => hh (hdmaPair_next _ h0.1)⟩
    rw [hk, Nat.mul_add, Nat.mul_one, Nat.add_assoc, Nat.add_comm hdmaChunkCycles]

/-- General-purpose DMA (R464). -/
theorem generalDma_eq (s : State) (n : BitVec 7) :
    ∃ vram src dst carry, s.generalDma n = { s with
        mem := { s.mem with vram := vram }
        hdma := { src := src, dst := dst, len := 0x7F#7, active := false }
        carryCycles := carry } ∧ carry = s.carryCycles + hdmaChunkCycles * (n.toNat + 1) ∧ (s.mem.vram.wf → vram.wf) ∧
      (s.HdmaOk → HdmaPair src dst) := by
  obtain ⟨vram, src, dst, carry, h, hk, hw, hh⟩ := copyChunks_eq (n.toNat + 1) s
  rw [generalDma, h]
  exact ⟨vram, src, dst, carry, rfl, hk, hw, hh⟩

/-- An H-Blank chunk (R465). -/
theorem hblankChunk_eq (s : State) :
    ∃ vram src dst len active, s.hblankChunk = { s with
        mem := { s.mem with vram := vram }
        hdma := { src := src, dst := dst, len := len, active := active }
        carryCycles := s.carryCycles + hdmaChunkCycles } ∧ (s.mem.vram.wf → vram.wf) ∧
      (s.HdmaOk → HdmaPair src dst) := by
  obtain ⟨vram, h, hw⟩ := hdmaCopyChunk_eq s
  rw [hblankChunk, h]
  dsimp only
  split
  · exact ⟨_, _, _, _, _, rfl, hw, fun h0 => hdmaPair_next _ h0.1⟩
  · exact ⟨_, _, _, _, _, rfl, hw, fun h0 => hdmaPair_next _ h0.1⟩

/-- A write to FF55 (R463). -/
theorem hdmaControl_eq (s : State) (v : Byte) :
    ∃ vram hdma carry k, s.hdmaControl v = { s with
        mem := { s.mem with vram := vram }
        hdma := hdma
        carryCycles := carry } ∧ carry = s.carryCycles + hdmaChunkCycles * k ∧ (s.mem.vram.wf → vram.wf) ∧
      (s.HdmaOk → HdmaPair hdma.src hdma.dst) := by
  unfold hdmaControl
  split
  · split
    · exact ⟨s.mem.vram, _, s.carryCycles, 0, rfl, rfl, id, id⟩
    · exact ⟨s.mem.vram, _, s.carryCycles, 0, rfl, rfl, id, id⟩
  · split
    · exact ⟨s.mem.vram, _, s.carryCycles, 0, rfl, rfl, id, id⟩
    · obtain ⟨vram, src, dst, carry, h, hk, hw, hh⟩ := generalDma_eq s (v.extractLsb' 0 7)
      exact ⟨vram, _, carry, _, h, hk, hw, hh⟩

/-! ### A bus write -/

/-- What a write to an I/O register can do when it starts no DMA: registers, palettes and storage bytes. -/
structure RegisterWrite (s u : State) : Prop where
  core   : SameCore s u
  line   : SameLine s u
  mbc    : u.mbc = s.mbc
  carry  : u.carryCycles = s.carryCycles
  vram   : u.mem.vram = s.mem.vram
  wram   : u.mem.wram = s.mem.wram
  oam    : u.mem.oam = s.mem.oam
  hram   : u.mem.hram = s.mem.hram
  raster : u.ppu.raster = s.ppu.raster
  hdma   : s.HdmaOk → u.HdmaOk
  io     : s.mem.io.wf → u.mem.io.wf
  bgPal  : s.ppu.bgPal.cells.wf → u.ppu.bgPal.cells.wf
  objPal : s.ppu.objPal.cells.wf → u.ppu.objPal.cells.wf

/-- A plain register write, where everything named is kept as it is. -/
theorem RegisterWrite.plain {s u : State} (core : SameCore s u) (line : SameLine s u) (mbc : u.mbc = s.mbc)
    (carry : u.carryCycles = s.carryCycles) (vram : u.mem.vram = s.mem.vram) (wram : u.mem.wram = s.mem.wram)
    (oam : u.mem.oam = s.mem.oam) (hram : u.mem.hram = s.mem.hram) (raster : u.ppu.raster = s.ppu.raster)
    (hdma : u.hdma = s.hdma) (io : u.mem.io = s.mem.io) (bgPal : u.ppu.bgPal.cells = s.ppu.bgPal.cells)
    (objPal : u.ppu.objPal.cells = s.ppu.objPal.cells) : RegisterWrite s u where
  core := core
  line := line
  mbc := mbc
  carry := carry
  vram := vram
  wram := wram
  oam := oam
  hram := hram
  raster := raster
  hdma h := by simp only [HdmaOk, hdma]; exact h
  io h := io ▸ h
  bgPal h := bgPal ▸ h
  objPal h := objPal ▸ h

theorem toNat_ofBytes (h l : Byte) : (Word.ofBytes h l).toNat = 256 * h.toNat + l.toNat := by
  simp only [Word.ofBytes, BitVec.toNat_append]
  rw [← Nat.shiftLeft_add_eq_or_of_lt l.isLt, Nat.shiftLeft_eq]
  omega

theorem toNat_lo (w : Word) : w.lo.toNat = w.toNat % 256 := by
  simp only [Word.lo, BitVec.extractLsb'_toNat, Nat.shiftRight_zero]

theorem toNat_hi (w : Word) : w.hi.toNat = w.toNat / 256 := by
  simp only [Word.hi, BitVec.extractLsb'_toNat, Nat.shiftRight_eq_div_pow]
  have := w.isLt
  omega

/-- The address bytes that a write to FF53 leaves (R462). -/
theorem toNat_hdma3 (v l : Byte) : (4#3 ++ v.extractLsb' 0 5 ++ l : Word).toNat = 0x8000 + 256 * (v.toNat % 32) + l.toNat := by
  have h : (4#3 ++ v.extractLsb' 0 5 : Byte).toNat = 0x80 + v.toNat % 32 := by
    simp only [BitVec.toNat_append, BitVec.extractLsb'_toNat, Nat.shiftRight_zero]
    rw [← Nat.shiftLeft_add_eq_or_of_lt (by omega), Nat.shiftLeft_eq]
    simp
  have := toNat_ofBytes (4#3 ++ v.extractLsb' 0 5 : Byte) l
  simp only [Word.ofBytes] at this
  rw [this, h]
  omega

/-- Writing the bytes of an HDMA address register keeps the pair legal (R462). -/
theorem hdmaPair_bytes {src dst : Word} (v : Byte) (h : HdmaPair src dst) :
    HdmaPair (v ++ src.lo) dst ∧ HdmaPair (src.hi ++ (v &&& 0xF0#8)) dst ∧
      HdmaPair src (4#3 ++ v.extractLsb' 0 5 ++ dst.lo) ∧ HdmaPair src (dst.hi ++ (v &&& 0xF0#8)) := by
  have hv := mask_hi_mod v
  have h1 := toNat_ofBytes v src.lo
  have h2 := toNat_ofBytes src.hi (v &&& 0xF0#8)
  have h3 := toNat_hdma3 v dst.lo
  have h4 := toNat_ofBytes dst.hi (v &&& 0xF0#8)
  have hv' : (v &&& 0xF0#8).toNat ≤ 0xF0 := by rw [BitVec.toNat_and]; exact Nat.and_le_right
  simp only [Word.ofBytes] at h1 h2 h4
  simp only [HdmaPair, h1, h2, h3, h4, toNat_lo, toNat_hi] at h ⊢
  refine ⟨⟨?_, ?_, ?_, ?_⟩, ⟨?_, ?_, ?_, ?_⟩, ⟨?_, ?_, ?_, ?_⟩, ?_, ?_, ?_, ?_⟩ <;> omega

/-- The cases of an I/O write: OAM DMA, a write to FF55, or a register write. -/
theorem writeIo_cases (s : State) (r : IoReg) (v : Byte) :
    (∃ oam, s.writeIo r v = { s with ppu := { s.ppu with dma := v }, mem := { s.mem with oam := oam } } ∧
      (s.mem.oam.wf → oam.wf)) ∨ s.writeIo r v = s.hdmaControl v ∨ RegisterWrite s (s.writeIo r v) := by
  have plainIf : ∀ u : State, RegisterWrite s u → RegisterWrite s (s.ifCgb u) := by
    intro u h
    unfold ifCgb
    split
    · exact h
    · exact .plain (.refl s) (.refl s) rfl rfl rfl rfl rfl rfl rfl rfl rfl rfl rfl
  have hp : ∀ u : State, SameCore s u → SameLine s u → u.mbc = s.mbc → _ := @RegisterWrite.plain s
  cases r
  case dma =>
    obtain ⟨oam, h, hw⟩ := oamCopy_eq (v ++ 0x00#8) 160 { s with ppu := { s.ppu with dma := v } }
    exact .inl ⟨oam, h, hw⟩
  case hdma5 =>
    by_cases hc : s.cart.cgbMode = true
    · exact .inr (.inl (by simp only [writeIo, ifCgb, if_pos hc]))
    · refine .inr (.inr ?_)
      simp only [writeIo, ifCgb, if_neg hc]
      exact .plain (.refl s) (.refl s) rfl rfl rfl rfl rfl rfl rfl rfl rfl rfl rfl
  all_goals
    refine .inr (.inr ?_)
    simp only [writeIo]
    first
    | exact .plain ⟨rfl, rfl, rfl, rfl⟩ ⟨rfl, rfl⟩ rfl rfl rfl rfl rfl rfl rfl rfl rfl rfl rfl
    | exact plainIf _ (.plain ⟨rfl, rfl, rfl, rfl⟩ ⟨rfl, rfl⟩ rfl rfl rfl rfl rfl rfl rfl rfl rfl rfl rfl)
    | skip
  case hdma1 =>
    exact plainIf _ ⟨⟨rfl, rfl, rfl, rfl⟩, ⟨rfl, rfl⟩, rfl, rfl, rfl, rfl, rfl, rfl, rfl,
      fun h => (hdmaPair_bytes v h).1, id, id, id⟩
  case hdma2 =>
    exact plainIf _ ⟨⟨rfl, rfl, rfl, rfl⟩, ⟨rfl, rfl⟩, rfl, rfl, rfl, rfl, rfl, rfl, rfl,
      fun h => (hdmaPair_bytes v h).2.1, id, id, id⟩
  case hdma3 =>
    exact plainIf _ ⟨⟨rfl, rfl, rfl, rfl⟩, ⟨rfl, rfl⟩, rfl, rfl, rfl, rfl, rfl, rfl, rfl,
      fun h => (hdmaPair_bytes v h).2.2.1, id, id, id⟩
  case hdma4 =>
    exact plainIf _ ⟨⟨rfl, rfl, rfl, rfl⟩, ⟨rfl, rfl⟩, rfl, rfl, rfl, rfl, rfl, rfl, rfl,
      fun h => (hdmaPair_bytes v h).2.2.2, id, id, id⟩
  case bcpd =>
    exact plainIf _ ⟨⟨rfl, rfl, rfl, rfl⟩, ⟨rfl, rfl⟩, rfl, rfl, rfl, rfl, rfl, rfl, rfl, id, id,
      fun h => Memory.wf_write h _ _, id⟩
  case ocpd =>
    exact plainIf _ ⟨⟨rfl, rfl, rfl, rfl⟩, ⟨rfl, rfl⟩, rfl, rfl, rfl, rfl, rfl, rfl, rfl, id, id, id,
      fun h => Memory.wf_write h _ _⟩
  case storage =>
    exact ⟨⟨rfl, rfl, rfl, rfl⟩, ⟨rfl, rfl⟩, rfl, rfl, rfl, rfl, rfl, rfl, rfl, id,
      fun h => Memory.wf_write h _ _, id, id⟩

/-- What an I/O write never touches. -/
theorem writeIo_core (s : State) (r : IoReg) (v : Byte) : SameCore s (s.writeIo r v) ∧ SameLine s (s.writeIo r v) := by
  rcases writeIo_cases s r v with ⟨oam, h, -⟩ | h | h
  · rw [h]; exact ⟨⟨rfl, rfl, rfl, rfl⟩, rfl, rfl⟩
  · obtain ⟨vram, hd, carry, k, e, -⟩ := hdmaControl_eq s v
    rw [h, e]
    exact ⟨⟨rfl, rfl, rfl, rfl⟩, rfl, rfl⟩
  · exact ⟨h.core, h.line⟩

/-- A bus write changes no CPU register, no cartridge byte, no parameter, no count, and not the PPU's line counters. -/
theorem write_core (s : State) (a : Word) (v : Byte) : SameCore s (s.write a v) ∧ SameLine s (s.write a v) := by
  unfold write
  cases s.route a <;> simp only [writePlace] <;>
    first | exact ⟨⟨rfl, rfl, rfl, rfl⟩, rfl, rfl⟩ | exact writeIo_core s _ v

@[simp] theorem write_cpu (s : State) (a : Word) (v : Byte) : (s.write a v).cpu = s.cpu := (write_core s a v).1.cpu
@[simp] theorem write_cart (s : State) (a : Word) (v : Byte) : (s.write a v).cart = s.cart := (write_core s a v).1.cart
@[simp] theorem write_config (s : State) (a : Word) (v : Byte) : (s.write a v).config = s.config :=
  (write_core s a v).1.config
@[simp] theorem write_cycles (s : State) (a : Word) (v : Byte) : (s.write a v).cycles = s.cycles :=
  (write_core s a v).1.cycles
@[simp] theorem write_ly (s : State) (a : Word) (v : Byte) : (s.write a v).ppu.ly = s.ppu.ly := (write_core s a v).2.ly
@[simp] theorem write_acc (s : State) (a : Word) (v : Byte) : (s.write a v).ppu.acc = s.ppu.acc :=
  (write_core s a v).2.acc

/-- An I/O write keeps every memory in its canonical form. -/
theorem writeIo_memoryOk {s : State} (h : s.MemoryOk) (r : IoReg) (v : Byte) : (s.writeIo r v).MemoryOk := by
  rcases writeIo_cases s r v with ⟨oam, e, hw⟩ | e | e
  · rw [e]; exact ⟨h.rom, h.vram, h.wram, hw h.oam, h.hram, h.io, h.bgPal, h.objPal, h.eram⟩
  · obtain ⟨vram, hd, carry, k, e', -, hw, -⟩ := hdmaControl_eq s v
    rw [e, e']
    exact ⟨h.rom, hw h.vram, h.wram, h.oam, h.hram, h.io, h.bgPal, h.objPal, h.eram⟩
  · exact ⟨e.core.cart ▸ h.rom, e.vram ▸ h.vram, e.wram ▸ h.wram, e.oam ▸ h.oam, e.hram ▸ h.hram, e.io h.io,
      e.bgPal h.bgPal, e.objPal h.objPal, e.mbc ▸ h.eram⟩

/-- A bus write keeps HDMA's addresses legal. -/
theorem write_hdmaOk {s : State} (h : s.HdmaOk) (a : Word) (v : Byte) : (s.write a v).HdmaOk := by
  unfold write
  cases s.route a <;> simp only [writePlace] <;> first | exact h | skip
  rename_i r
  rcases writeIo_cases s r v with ⟨oam, e, -⟩ | e | e
  · rw [e]; exact h
  · obtain ⟨vram, hd, carry, k, e', -, -, hw⟩ := hdmaControl_eq s v
    rw [e, e']; exact hw h
  · exact e.hdma h

/-- What a bus write adds to the carried cycles: eight for every chunk of a general-purpose DMA. -/
theorem write_carry (s : State) (a : Word) (v : Byte) :
    ∃ k, (s.write a v).carryCycles = s.carryCycles + hdmaChunkCycles * k := by
  unfold write
  cases s.route a <;> simp only [writePlace] <;> first | exact ⟨0, rfl⟩ | skip
  rename_i r
  rcases writeIo_cases s r v with ⟨oam, e, -⟩ | e | e
  · exact ⟨0, by rw [e]; rfl⟩
  · obtain ⟨vram, hd, carry, k, e', hk, -⟩ := hdmaControl_eq s v
    exact ⟨k, by rw [e, e', ← hk]⟩
  · exact ⟨0, e.carry⟩

/-- A control write changes no external RAM. -/
theorem writeControl_eram (k : MbcKind) (m : Mbc) (a : Word) (v : Byte) : (writeControl k m a v).eram = m.eram := by
  cases k <;> simp only [writeControl] <;> (repeat' split) <;> rfl

/-- A bus write keeps every memory in its canonical form. -/
theorem write_memoryOk {s : State} (h : s.MemoryOk) (a : Word) (v : Byte) : (s.write a v).MemoryOk := by
  unfold write
  cases s.route a <;> simp only [writePlace]
  · refine ⟨h.rom, h.vram, h.wram, h.oam, h.hram, h.io, h.bgPal, h.objPal, ?_⟩
    simp only [writeControl_eram]
    exact h.eram
  · exact ⟨h.rom, Memory.wf_write h.vram _ _, h.wram, h.oam, h.hram, h.io, h.bgPal, h.objPal, h.eram⟩
  · exact ⟨h.rom, h.vram, h.wram, h.oam, h.hram, h.io, h.bgPal, h.objPal, Memory.wf_write h.eram _ _⟩
  · exact ⟨h.rom, h.vram, h.wram, h.oam, h.hram, h.io, h.bgPal, h.objPal, Memory.wf_write h.eram _ _⟩
  · exact ⟨h.rom, h.vram, h.wram, h.oam, h.hram, h.io, h.bgPal, h.objPal, h.eram⟩
  · exact ⟨h.rom, h.vram, Memory.wf_write h.wram _ _, h.oam, h.hram, h.io, h.bgPal, h.objPal, h.eram⟩
  · exact ⟨h.rom, h.vram, h.wram, Memory.wf_write h.oam _ _, h.hram, h.io, h.bgPal, h.objPal, h.eram⟩
  · exact ⟨h.rom, h.vram, h.wram, h.oam, Memory.wf_write h.hram _ _, h.io, h.bgPal, h.objPal, h.eram⟩
  · exact writeIo_memoryOk h _ v
  · exact ⟨h.rom, h.vram, h.wram, h.oam, h.hram, h.io, h.bgPal, h.objPal, h.eram⟩
  · exact h

end State

end Sys2Proof.Machine
end

