-- ==== Sys2Proof/Laws/Bus.lean ====
section
/-! SUPPORT. Reading after a write: what a write at a quiet place leaves, what a memory cell reads back, and the two bytes
of a word. -/

namespace Sys2Proof.Machine

namespace State

/-- A write at a quiet place moves no bank. -/
theorem writePlace_route (s : State) (a : Word) (v : Byte) {p : Place} (h : p.quiet = true) (b : Word) :
    (s.writePlace a v p).route b = s.route b := by
  cases p
  case rom => simp [Place.quiet] at h
  case io r =>
    cases r <;> first | exact absurd h (by decide) | (simp only [writePlace, writeIo, ifCgb]; split <;> rfl) | rfl
  all_goals rfl

theorem write_route (s : State) (a : Word) (v : Byte) (h : (s.route a).quiet = true) (b : Word) :
    (s.write a v).route b = s.route b := writePlace_route s a v h b

/-- External RAM has nibbles exactly under MBC2 (R136). -/
theorem eramPlace_kind (c : Cartridge) (m : Mbc) (off : Nat) :
    (∀ i, eramPlace c m off = .eram i → c.kind ≠ .mbc2) ∧ (∀ i, eramPlace c m off = .eramNibble i → c.kind = .mbc2) := by
  unfold eramPlace
  constructor <;> intro i h <;> split at h
  · simp at h
  · split at h <;> (intro e; simp_all)
  · simp at h
  · split at h <;> first | assumption | (repeat' split at h) <;> simp at h

/-- WRAM's window shows cells of the first bank, then of the selected one (R68, R69). -/
theorem wramPlace_eq (s : State) (off : Nat) :
    ∃ i, s.wramPlace off = .wram i ∧ (off < 4096 → i = off) ∧ (4096 ≤ off → i = 4096 * s.wramBank + (off - 4096)) := by
  unfold wramPlace
  split
  · exact ⟨off, rfl, fun _ => rfl, fun h => by omega⟩
  · exact ⟨_, rfl, fun h => by omega, fun _ => rfl⟩

/-- The regions of R61, one after another. -/
theorem route_cases (s : State) (a : Word) :
    (a.toNat < 0x8000 ∧ ∃ i, s.route a = .rom i) ∨
    (0x8000 ≤ a.toNat ∧ a.toNat < 0xA000 ∧ s.route a = .vram (8192 * s.vramBank + (a.toNat - 0x8000))) ∨
    (0xA000 ≤ a.toNat ∧ a.toNat < 0xC000 ∧ s.route a = eramPlace s.cart s.mbc (a.toNat - 0xA000)) ∨
    (0xC000 ≤ a.toNat ∧ a.toNat < 0xE000 ∧ s.route a = s.wramPlace (a.toNat - 0xC000)) ∨
    (0xE000 ≤ a.toNat ∧ a.toNat < 0xFE00 ∧ s.route a = s.wramPlace (a.toNat - 0xE000)) ∨
    (0xFE00 ≤ a.toNat ∧ a.toNat < 0xFEA0 ∧ s.route a = .oam (a.toNat - 0xFE00)) ∨
    (0xFEA0 ≤ a.toNat ∧ a.toNat < 0xFF00 ∧ s.route a = .void) ∨
    (0xFF00 ≤ a.toNat ∧ a.toNat < 0xFF80 ∧ s.route a = .io (ioReg (a.toNat - 0xFF00))) ∨
    (0xFF80 ≤ a.toNat ∧ a.toNat < 0xFFFF ∧ s.route a = .hram (a.toNat - 0xFF80)) ∨
    (a.toNat = 0xFFFF ∧ s.route a = .ie) := by
  have ha := a.isLt
  unfold route
  dsimp only
  by_cases h1 : a.toNat < 0x4000
  · rw [if_pos h1]; exact .inl ⟨by omega, _, rfl⟩
  rw [if_neg h1]
  by_cases h2 : a.toNat < 0x8000
  · rw [if_pos h2]; exact .inl ⟨h2, _, rfl⟩
  rw [if_neg h2]; right
  by_cases h3 : a.toNat < 0xA000
  · rw [if_pos h3]; exact .inl ⟨by omega, h3, rfl⟩
  rw [if_neg h3]; right
  by_cases h4 : a.toNat < 0xC000
  · rw [if_pos h4]; exact .inl ⟨by omega, h4, rfl⟩
  rw [if_neg h4]; right
  by_cases h5 : a.toNat < 0xE000
  · rw [if_pos h5]; exact .inl ⟨by omega, h5, rfl⟩
  rw [if_neg h5]; right
  by_cases h6 : a.toNat < 0xFE00
  · rw [if_pos h6]; exact .inl ⟨by omega, h6, rfl⟩
  rw [if_neg h6]; right
  by_cases h7 : a.toNat < 0xFEA0
  · rw [if_pos h7]; exact .inl ⟨by omega, h7, rfl⟩
  rw [if_neg h7]; right
  by_cases h8 : a.toNat < 0xFF00
  · rw [if_pos h8]; exact .inl ⟨by omega, h8, rfl⟩
  rw [if_neg h8]; right
  by_cases h9 : a.toNat < 0xFF80
  · rw [if_pos h9]; exact .inl ⟨by omega, h9, rfl⟩
  rw [if_neg h9]; right
  by_cases h10 : a.toNat < 0xFFFF
  · rw [if_pos h10]; exact .inl ⟨by omega, h10, rfl⟩
  rw [if_neg h10]
  exact .inr ⟨by omega, rfl⟩

/-- External RAM has nibbles exactly under MBC2, whatever the address. -/
theorem route_kind (s : State) (a : Word) :
    (∀ i, s.route a = .eram i → s.cart.kind ≠ .mbc2) ∧ (∀ i, s.route a = .eramNibble i → s.cart.kind = .mbc2) := by
  obtain ⟨i1, w1, -, -⟩ := wramPlace_eq s (a.toNat - 0xC000)
  obtain ⟨i2, w2, -, -⟩ := wramPlace_eq s (a.toNat - 0xE000)
  rcases route_cases s a with ⟨-, i, h⟩ | ⟨-, -, h⟩ | ⟨-, -, h⟩ | ⟨-, -, h⟩ | ⟨-, -, h⟩ | ⟨-, -, h⟩ | ⟨-, -, h⟩ |
    ⟨-, -, h⟩ | ⟨-, -, h⟩ | ⟨-, h⟩
  case inr.inr.inl => rw [h]; exact eramPlace_kind _ _ _
  all_goals
    try rw [w1] at h
    try rw [w2] at h
    constructor <;> intro j hj <;> rw [h] at hj <;> cases hj

/-- A quiet register's write changes what no other register reads. -/
theorem readIo_writeIo_of_ne (s : State) (v : Byte) {r q : IoReg} (h : (Place.io r).quiet = true) (hq : q ≠ r) :
    (s.writeIo r v).readIo q = s.readIo q := by
  cases r <;> first | exact absurd h (by decide) | skip
  case storage k =>
    cases q <;> first | rfl | exact Memory.read_write_other _ _ (by rintro rfl; exact hq rfl)
  case hdma1 | hdma2 | hdma3 | hdma4 =>
    all_goals simp only [writeIo, ifCgb]; split <;> rfl
  all_goals
    cases q <;> first | exact absurd rfl hq | rfl

/-- Reading any other place after a write at a quiet one (R62, R80, R103). -/
theorem read_write_of_ne (s : State) (a b : Word) (v : Byte) (h : (s.route a).quiet = true)
    (hb : s.route b ≠ s.route a) : (s.write a v).read b = s.read b := by
  unfold read
  rw [write_route s a v h]
  unfold write
  have ka := route_kind s a
  have kb := route_kind s b
  generalize s.route a = p at *
  generalize s.route b = q at *
  cases p
  case rom => simp [Place.quiet] at h
  case io r =>
    cases q
    case io q => exact readIo_writeIo_of_ne s v h (by rintro rfl; exact hb rfl)
    all_goals
      cases r <;> first | exact absurd h (by decide) | (simp only [writePlace, writeIo, ifCgb]; split <;> rfl) | rfl
  case rtc r =>
    cases q <;> first | rfl | skip
    rename_i q
    cases r <;> cases q <;> first | rfl | exact absurd rfl hb
  case eram i =>
    cases q <;> first | rfl | exact Memory.read_write_other _ _ (by rintro rfl; exact hb rfl) | skip
    rename_i j
    exact absurd (kb.2 j rfl) (ka.1 i rfl)
  case eramNibble i =>
    cases q <;> first | rfl | skip
    · rename_i j
      exact absurd (ka.2 i rfl) (kb.1 j rfl)
    · rename_i j
      simp only [readPlace, writePlace]
      rw [Memory.read_write_other _ _ (by rintro rfl; exact hb rfl)]
  all_goals
    cases q <;> first | rfl | exact absurd rfl hb | exact Memory.read_write_other _ _ (by rintro rfl; exact hb rfl)

/-- A memory cell reads back what was stored (R62). -/
theorem read_write_cell {s : State} (hm : s.MemoryOk) (a : Word) (v : Byte) (h : (s.route a).isCell = true) :
    (s.write a v).read a = v := by
  have hq : (s.route a).quiet = true := by
    generalize s.route a = p at h
    cases p <;> first | rfl | simp [Place.isCell] at h
  unfold read
  rw [write_route s a v hq]
  unfold write
  generalize s.route a = p at h
  cases p <;> simp only [Place.isCell, Bool.false_eq_true] at h <;> simp only [writePlace, readPlace]
  · exact Memory.read_write_same hm.vram _ _
  · exact Memory.read_write_same hm.eram _ _
  · exact Memory.read_write_same hm.wram _ _
  · exact Memory.read_write_same hm.oam _ _
  · exact Memory.read_write_same hm.hram _ _

/-- A write at a memory cell changes no device. -/
theorem write_cell_devices (s : State) (a : Word) (v : Byte) (h : (s.route a).isCell = true) :
    SameDevices s (s.write a v) := by
  unfold write
  generalize s.route a = p at h
  cases p <;> simp only [Place.isCell, Bool.false_eq_true] at h <;>
    exact ⟨rfl, rfl, rfl, rfl, rfl, rfl, rfl, rfl, rfl, rfl, rfl, rfl⟩

/-- A memory cell is a quiet place. -/
theorem quiet_of_isCell {p : Place} (h : p.isCell = true) : p.quiet = true := by
  cases p <;> first | rfl | simp [Place.isCell] at h

/-- Everything a store leaves. -/
theorem storesAt (s : State) (a : Word) (v : Byte) : StoresAt s (s.write a v) a v where
  cart := write_cart s a v
  config := write_config s a v
  others h b hb := read_write_of_ne s a b v h hb
  devices h := write_cell_devices s a v h
  value h hm := read_write_cell hm a v h

/-- Where external RAM has whole bytes, its window shows a stretch of them (R131, R142, R147). -/
theorem eramPlace_stretch {c : Cartridge} {m : Mbc} {off i : Nat} (h : eramPlace c m off = .eram i) :
    ∃ base, i = base + off ∧ ∀ k, eramPlace c m k = .eram (base + k) := by
  unfold eramPlace at h ⊢
  split at h
  · exact absurd h (by simp)
  rename_i h1
  split at h <;> rename_i h2
  · exact absurd h (by simp)
  · split at h
    · exact absurd h (by simp)
    · rename_i h3
      exact ⟨_, ((Place.eram.injEq _ _).mp h).symm, fun k => by simp only [if_neg h1, if_neg h3]⟩
  · exact absurd h (by simp)
  · split at h
    · rename_i h4
      split at h
      · exact absurd h (by simp)
      · rename_i h3
        exact ⟨_, ((Place.eram.injEq _ _).mp h).symm, fun k => by simp only [if_neg h1, if_neg h3, if_pos h4]⟩
    · split at h
      · split at h <;> exact absurd h (by simp)
      · exact absurd h (by simp)
  · split at h
    · exact absurd h (by simp)
    · rename_i h3
      exact ⟨_, ((Place.eram.injEq _ _).mp h).symm, fun k => by simp only [if_neg h1, if_neg h3]⟩

/-- What external RAM's window can show. -/
theorem eramPlace_kinds (c : Cartridge) (m : Mbc) (off : Nat) :
    (∃ i, eramPlace c m off = .eram i) ∨ (eramPlace c m off).isCell = false := by
  unfold eramPlace
  (repeat' split) <;> first | exact .inl ⟨_, rfl⟩ | exact .inr rfl

theorem wramBank_pos (s : State) : 1 ≤ s.wramBank := by
  unfold wramBank
  split <;> omega

/-- Two neighbouring addresses of cells lead to different cells. -/
theorem route_succ_ne (s : State) (a : Word) (h : (s.route a).isCell = true) : s.route (a + 1#16) ≠ s.route a := by
  have hn : (a + 1#16).toNat = (a.toNat + 1) % 65536 := BitVec.toNat_add a 1#16
  have ha := a.isLt
  have hb := wramBank_pos s
  intro hc
  obtain ⟨i1, w1, l1, g1⟩ := wramPlace_eq s (a.toNat - 0xC000)
  obtain ⟨i2, w2, l2, g2⟩ := wramPlace_eq s (a.toNat - 0xE000)
  obtain ⟨i3, w3, l3, g3⟩ := wramPlace_eq s ((a + 1#16).toNat - 0xC000)
  obtain ⟨i4, w4, l4, g4⟩ := wramPlace_eq s ((a + 1#16).toNat - 0xE000)
  rcases route_cases s a with ⟨-, i, e⟩ | ⟨r1, r2, e⟩ | ⟨r1, r2, e⟩ | ⟨r1, r2, e⟩ | ⟨r1, r2, e⟩ | ⟨r1, r2, e⟩ |
    ⟨-, -, e⟩ | ⟨-, -, e⟩ | ⟨r1, r2, e⟩ | ⟨-, e⟩
  · rw [e] at h; exact Bool.false_ne_true h
  · rcases route_cases s (a + 1#16) with ⟨q2, j, f⟩ | ⟨q1, q2, f⟩ | ⟨q1, q2, f⟩ | q | q | q | q | q | q | q <;> try omega
    · rw [e, f] at hc; have := (Place.vram.injEq _ _).mp hc; omega
    · rw [e, f] at hc
      rcases eramPlace_kinds s.cart s.mbc ((a + 1#16).toNat - 0xA000) with ⟨i, k⟩ | k
      · rw [k] at hc; cases hc
      · rw [hc] at k; exact Bool.false_ne_true k.symm
  · rw [e] at h
    rcases eramPlace_kinds s.cart s.mbc (a.toNat - 0xA000) with ⟨i, k⟩ | k
    · obtain ⟨base, hi, hk⟩ := eramPlace_stretch k
      rcases route_cases s (a + 1#16) with ⟨q2, j, f⟩ | q | ⟨q1, q2, f⟩ | ⟨q1, q2, f⟩ | q | q | q | q | q | q <;> try omega
      · rw [e, f, k, hk] at hc; have := (Place.eram.injEq _ _).mp hc; omega
      · rw [e, f, k, w3] at hc; cases hc
    · rw [h] at k; exact Bool.false_ne_true k.symm
  · rw [w1] at e
    rcases route_cases s (a + 1#16) with ⟨q2, j, f⟩ | q | q | ⟨q1, q2, f⟩ | ⟨q1, q2, f⟩ | q | q | q | q | q <;> try omega
    · rw [e, f, w3] at hc; have := (Place.wram.injEq _ _).mp hc; omega
    · rw [e, f, w4] at hc; have := (Place.wram.injEq _ _).mp hc; omega
  · rw [w2] at e
    rcases route_cases s (a + 1#16) with ⟨q2, j, f⟩ | q | q | q | ⟨q1, q2, f⟩ | ⟨q1, q2, f⟩ | q | q | q | q <;> try omega
    · rw [e, f, w4] at hc; have := (Place.wram.injEq _ _).mp hc; omega
    · rw [e, f] at hc; cases hc
  · rcases route_cases s (a + 1#16) with ⟨q2, j, f⟩ | q | q | q | q | ⟨q1, q2, f⟩ | ⟨q1, q2, f⟩ | q | q | q <;> try omega
    · rw [e, f] at hc; have := (Place.oam.injEq _ _).mp hc; omega
    · rw [e, f] at hc; cases hc
  · rw [e] at h; exact Bool.false_ne_true h
  · rw [e] at h; exact Bool.false_ne_true h
  · rcases route_cases s (a + 1#16) with ⟨q2, j, f⟩ | q | q | q | q | q | q | q | ⟨q1, q2, f⟩ | ⟨q1, f⟩ <;> try omega
    · rw [e, f] at hc; have := (Place.hram.injEq _ _).mp hc; omega
    · rw [e, f] at hc; cases hc
  · rw [e] at h; exact Bool.false_ne_true h

/-- Everything two stores leave, the second at a place of its own. -/
theorem storesTwo (s : State) (a : Word) (v : Byte) (b : Word) (w : Byte)
    (hab : (s.route a).isCell = true → (s.route b).isCell = true → s.route a ≠ s.route b) :
    StoresTwo s ((s.write a v).write b w) a v b w where
  cart := by simp
  config := by simp
  others ha hb k hka hkb := by
    have hr := write_route s a v ha
    rw [read_write_of_ne _ b k w (by rw [hr]; exact hb) (by rw [hr, hr]; exact hkb), read_write_of_ne s a k v ha hka]
  devices ha hb := by
    have h1 := write_cell_devices s a v ha
    have h2 := write_cell_devices (s.write a v) b w (by rw [write_route s a v (quiet_of_isCell ha)]; exact hb)
    refine ⟨h2.irq.trans h1.irq, h2.timer.trans h1.timer, h2.joypad.trans h1.joypad, h2.serial.trans h1.serial,
      h2.ppu.trans h1.ppu, h2.hdma.trans h1.hdma, ?_, h2.vbk.trans h1.vbk, h2.svbk.trans h1.svbk,
      h2.cart.trans h1.cart, h2.config.trans h1.config, h2.carry.trans h1.carry⟩
    rw [← h1.mbc, ← h2.mbc]
  value ha hb hm := by
    have hr := write_route s a v (quiet_of_isCell ha)
    refine ⟨?_, read_write_cell (write_memoryOk hm a v) b w (by rw [hr]; exact hb)⟩
    rw [read_write_of_ne _ b a w (by rw [hr]; exact quiet_of_isCell hb) (by rw [hr, hr]; exact hab ha hb)]
    exact read_write_cell hm a v ha

/-- Storing a word (R12, R231). -/
theorem storesTwo_write16 (s : State) (a v : Word) : StoresTwo s (s.write16 a v) a v.lo (a + 1#16) v.hi :=
  storesTwo s a v.lo (a + 1#16) v.hi fun ha _ => (route_succ_ne s a ha).symm

theorem sp_pred (w : Word) : w - 2#16 + 1#16 = w - 1#16 := by
  apply BitVec.eq_of_toNat_eq
  simp only [BitVec.toNat_add, BitVec.toNat_sub, BitVec.toNat_ofNat]
  have := w.isLt
  omega

/-- Pushing a word (R12): the CPU but for SP, and the two stores. -/
theorem push16_cpu (s : State) (v : Word) : (s.push16 v).cpu = { s.cpu with sp := s.cpu.sp - 2#16 } := by
  simp [push16]

theorem storesTwo_push16 (s : State) (v : Word) :
    StoresTwo s (s.push16 v) (s.cpu.sp - 1#16) v.hi (s.cpu.sp - 2#16) v.lo := by
  have h := storesTwo s (s.cpu.sp - 1#16) v.hi (s.cpu.sp - 2#16) v.lo fun ha hb => by
    have := route_succ_ne s _ hb
    rwa [sp_pred] at this
  exact ⟨h.cart, h.config, h.others, fun a b => ⟨(h.devices a b).irq, (h.devices a b).timer, (h.devices a b).joypad,
    (h.devices a b).serial, (h.devices a b).ppu, (h.devices a b).hdma, (h.devices a b).mbc, (h.devices a b).vbk,
    (h.devices a b).svbk, (h.devices a b).cart, (h.devices a b).config, (h.devices a b).carry⟩, h.value⟩

/-- The I/O window (R61, R80). -/
theorem route_io (s : State) {a : Word} (h : 0xFF00 ≤ a.toNat) (h' : a.toNat < 0xFF80) :
    s.route a = .io (ioReg (a.toNat - 0xFF00)) := by
  rcases route_cases s a with r | r | r | r | r | r | r | r | r | r <;> first | omega | exact r.2.2

/-- An access to the register at offset `n` of the I/O window. -/
theorem io_access (s : State) {a : Word} {n : Nat} {r : IoReg} (h : a.toNat = 0xFF00 + n) (hn : n < 0x80)
    (hr : ioReg n = r) : s.read a = s.readIo r ∧ ∀ v, s.write a v = s.writeIo r v := by
  have e : s.route a = .io r := by
    rw [route_io s (by omega) (by omega), show a.toNat - 0xFF00 = n by omega, hr]
  unfold read write
  rw [e]
  exact ⟨rfl, fun v => by simp only [writePlace]⟩

/-- A write below 8000 is a control write (R65). -/
theorem write_control (s : State) {a : Word} (v : Byte) (h : a.toNat < 0x8000) :
    s.write a v = { s with mbc := writeControl s.cart.kind s.mbc a v } := by
  unfold write
  rcases route_cases s a with ⟨-, i, e⟩ | r | r | r | r | r | r | r | r | r <;> try omega
  rw [e]
  rfl

/-- What a store leaves does not depend on the registers or the count. -/
theorem storesAt_cpu {s t : State} {a : Word} {v : Byte} (h : StoresAt s t a v) (c : Cpu) (n : Nat) :
    StoresAt s { t with cpu := c, cycles := n } a v :=
  ⟨h.cart, h.config, h.others, fun k => let d := h.devices k
    ⟨d.irq, d.timer, d.joypad, d.serial, d.ppu, d.hdma, d.mbc, d.vbk, d.svbk, d.cart, d.config, d.carry⟩, h.value⟩

/-- The same of two stores. -/
theorem storesTwo_cpu {s t : State} {a : Word} {v : Byte} {b : Word} {w : Byte} (h : StoresTwo s t a v b w) (c : Cpu)
    (n : Nat) : StoresTwo s { t with cpu := c, cycles := n } a v b w :=
  ⟨h.cart, h.config, h.others, fun k k' => let d := h.devices k k'
    ⟨d.irq, d.timer, d.joypad, d.serial, d.ppu, d.hdma, d.mbc, d.vbk, d.svbk, d.cart, d.config, d.carry⟩, h.value⟩

/-- An address of the window of external RAM leads to what the bank controller selects (R67). -/
theorem route_eram (s : State) {a : Word} (h : 0xA000 ≤ a.toNat) (h' : a.toNat < 0xC000) :
    s.route a = eramPlace s.cart s.mbc (a.toNat - 0xA000) := by
  rcases route_cases s a with r | r | r | r | r | r | r | r | r | r <;> first | omega | exact r.2.2

/-- An address of the window of VRAM. -/
theorem route_vram (s : State) {a : Word} (h : 0x8000 ≤ a.toNat) (h' : a.toNat < 0xA000) :
    s.route a = .vram (8192 * s.vramBank + (a.toNat - 0x8000)) := by
  unfold route
  dsimp only
  rw [if_neg (by omega), if_neg (by omega), if_pos h']

/-- An address of the switchable window of WRAM. -/
theorem route_wram (s : State) {a : Word} (h : 0xD000 ≤ a.toNat) (h' : a.toNat < 0xE000) :
    s.route a = .wram (4096 * s.wramBank + (a.toNat - 0xD000)) := by
  unfold route wramPlace
  dsimp only
  rw [if_neg (by omega), if_neg (by omega), if_neg (by omega), if_neg (by omega), if_pos h', if_neg (by omega),
    show a.toNat - 0xC000 - 0x1000 = a.toNat - 0xD000 by omega]

/-- Nothing but a VRAM cell shows VRAM. -/
theorem readPlace_vram (s : State) (vram : Memory) {p : Place} (h : ∀ i, p ≠ .vram i) :
    ({ s with mem := { s.mem with vram := vram } } : State).readPlace p = s.readPlace p := by
  cases p
  case vram i => exact absurd rfl (h i)
  case io r => cases r <;> rfl
  all_goals rfl

/-- No other window leads to VRAM. -/
theorem route_ne_vram (s : State) {a : Word} (h : a.toNat < 0x8000 ∨ 0xA000 ≤ a.toNat) (i : Nat) :
    s.route a ≠ .vram i := by
  obtain ⟨i1, w1, -, -⟩ := wramPlace_eq s (a.toNat - 0xC000)
  obtain ⟨i2, w2, -, -⟩ := wramPlace_eq s (a.toNat - 0xE000)
  have he : ∀ off, eramPlace s.cart s.mbc off ≠ .vram i := by
    intro off
    unfold eramPlace
    (repeat' split) <;> exact nofun
  rcases route_cases s a with ⟨-, i, k⟩ | r | r | r | r | r | r | r | r | r
  · rw [k]; exact nofun
  · omega
  · rw [r.2.2]; exact he _
  · rw [r.2.2, w1]; exact nofun
  · rw [r.2.2, w2]; exact nofun
  · rw [r.2.2]; exact nofun
  · rw [r.2.2]; exact nofun
  · rw [r.2.2]; exact nofun
  · rw [r.2.2]; exact nofun
  · rw [r.2]; exact nofun

/-- A read depends on VRAM only where the address is one of its window. -/
theorem read_vram (s : State) (vram : Memory) (a : Word) :
    ({ s with mem := { s.mem with vram := vram } } : State).read a =
      if 0x8000 ≤ a.toNat ∧ a.toNat < 0xA000 then vram.read (8192 * s.vramBank + (a.toNat - 0x8000)) else s.read a := by
  have e : ({ s with mem := { s.mem with vram := vram } } : State).route a = s.route a := rfl
  unfold read
  rw [e]
  split
  next h => rw [route_vram s h.1 h.2]; rfl
  next h => exact readPlace_vram s vram (route_ne_vram s (by omega))

/-! ### Cells of external RAM, palette ports -/

/-- An access to a whole byte of external RAM (R131, R142, R147). -/
theorem eram_access (s : State) {a : Word} {i : Nat} (v : Byte) (h : s.route a = .eram i) :
    s.read a = s.mbc.eram.read i ∧ EramStores s (s.write a v) i v := by
  unfold read write
  rw [h]
  exact ⟨rfl, rfl, fun hm j => by simp only [writePlace]; exact Memory.read_write hm.eram i j v⟩

/-- An access to one of MBC2's nibbles (R136). -/
theorem eramNibble_access (s : State) {a : Word} {i : Nat} (v : Byte) (h : s.route a = .eramNibble i) :
    s.read a = 0xF0#8 ||| s.mbc.eram.read i ∧ EramStores s (s.write a v) i (v &&& 0x0F#8) := by
  unfold read write
  rw [h]
  exact ⟨rfl, rfl, fun hm j => by simp only [writePlace]; exact Memory.read_write hm.eram i j _⟩

/-- A store through a palette's data port (R43). -/
theorem paletteStores_setData (p : PalettePort) (v : Byte) : PaletteStores p (p.setData v) v where
  autoInc := rfl
  index := by
    unfold PalettePort.setData
    have := p.index.isLt
    cases p.autoInc <;> simp
    omega
  cells := fun h i => Memory.read_write h _ i v

/-! ### HDMA chunks -/

/-- The first cell of VRAM a chunk writes (R465). -/
abbrev chunkBase (s : State) : Nat := 8192 * s.mem.vbk.toNat + (s.hdma.dst.toNat - 0x8000)

/-- The first `n` bytes of a chunk (R465): the other cells keep their bytes, and each of these is the one read before the
chunk began, because a source in VRAM either is the destination or does not overlap it. -/
theorem chunkCopy_spec (s : State) (n : Nat) :
    ∃ vram, chunkCopy s.hdma.src s.hdma.dst n s = { s with mem := { s.mem with vram := vram } } ∧
      (s.mem.vram.wf → vram.wf) ∧
      (∀ i, (∀ j, j < n → i ≠ s.chunkBase + j) → vram.read i = s.mem.vram.read i) ∧
      (s.cart.cgbMode = true → s.HdmaOk → s.mem.vram.wf → n ≤ 16 →
        ∀ j, j < n → vram.read (s.chunkBase + j) = s.read (s.hdma.src + BitVec.ofNat 16 j)) := by
  induction n with
  | zero => exact ⟨s.mem.vram, rfl, id, fun _ _ => rfl, fun _ _ _ _ j hj => absurd hj (Nat.not_lt_zero j)⟩
  | succ n ih =>
    obtain ⟨vram, h, hw, ho, hb⟩ := ih
    refine ⟨vram.write (s.chunkBase + n) (({ s with mem := { s.mem with vram := vram } } : State).read
      (s.hdma.src + BitVec.ofNat 16 n)), ?_, fun k => Memory.wf_write (hw k) _ _, ?_, ?_⟩
    · rw [chunkCopy, h]
      rfl
    · intro i hi
      rw [Memory.read_write_other _ _ (hi n (Nat.lt_succ_self n))]
      exact ho i fun j hj => hi j (by omega)
    · intro hc hh hm hn j hj
      rw [Memory.read_write (hw hm)]
      split
      next e =>
        have ej : j = n := by omega
        subst ej
        rw [read_vram]
        split
        next hr =>
          have hs : (s.hdma.src + BitVec.ofNat 16 j).toNat = s.hdma.src.toNat + j := by
            have := s.hdma.src.isLt
            rw [BitVec.toNat_add, BitVec.toNat_ofNat, Nat.mod_eq_of_lt (show j < 2 ^ 16 by omega)]
            exact Nat.mod_eq_of_lt (by have := hh.1; omega)
          have hv : s.vramBank = s.mem.vbk.toNat := by unfold vramBank; rw [hc]; rfl
          rw [hs] at hr
          rw [hs, hv]
          rw [ho _ fun k hk => by have := hh.1; have := hh.2.1; have := hh.2.2.1; unfold chunkBase; omega]
          unfold read
          rw [route_vram s (by omega) (by omega), hs, hv]
          simp only [readPlace]
        next => rfl
      next e => exact hb hc hh hm (by omega) j (by omega)

/-- One chunk is what R465 says. -/
theorem chunkMoves (s : State) : ChunkMoves s s.hdmaCopyChunk := by
  obtain ⟨vram, h, hw, ho, hb⟩ := chunkCopy_spec s hdmaChunkBytes
  have e : s.hdmaCopyChunk = { s with
      mem := { s.mem with vram := vram }
      hdma := { s.hdma with
        src := s.hdma.src + 16#16
        dst := 0x8000#16 ||| ((s.hdma.dst + 16#16) &&& 0x1FF0#16) }
      carryCycles := s.carryCycles + 8 } := by
    unfold hdmaCopyChunk
    rw [h]
    rfl
  rw [e]
  exact ⟨rfl, rfl, rfl, fun hc hh hm => hb hc hh hm.vram (Nat.le_refl 16), ho, fun hh hm =>
    ⟨hdmaPair_next _ hh.1, ⟨hm.rom, hw hm.vram, hm.wram, hm.oam, hm.hram, hm.io, hm.bgPal, hm.objPal, hm.eram⟩⟩⟩

/-- The chunks of a general transfer follow one another. -/
theorem chunksMove (n : Nat) (s : State) : ChunksMove n s (copyChunks n s) := by
  induction n generalizing s with
  | zero => rfl
  | succ n ih => exact ⟨_, chunkMoves s, ih _⟩

/-! ### The plain windows -/

theorem cellStores_write (m : Memory) (i : Nat) (v : Byte) : CellStores m (m.write i v) i v :=
  fun h j => Memory.read_write h i j v

/-- What an access to each plain window reads and writes (R66, R68, R69, R71, R74). -/
theorem vram_access (s : State) {a : Word} (v : Byte) (h : 0x8000 ≤ a.toNat) (h' : a.toNat < 0xA000) :
    let i := 8192 * s.vramBank + (a.toNat - 0x8000)
    s.read a = s.mem.vram.read i ∧ s.write a v = { s with mem := { s.mem with vram := s.mem.vram.write i v } } := by
  unfold read write
  rw [route_vram s h h']
  exact ⟨rfl, rfl⟩

theorem wram_access (s : State) {a : Word} (v : Byte) (h : 0xC000 ≤ a.toNat) (h' : a.toNat < 0xE000) :
    let i := if a.toNat < 0xD000 then a.toNat - 0xC000 else 4096 * s.wramBank + (a.toNat - 0xD000)
    s.read a = s.mem.wram.read i ∧ s.write a v = { s with mem := { s.mem with wram := s.mem.wram.write i v } } := by
  have e : s.route a = .wram (if a.toNat < 0xD000 then a.toNat - 0xC000 else 4096 * s.wramBank + (a.toNat - 0xD000)) := by
    by_cases hd : a.toNat < 0xD000
    · have r : s.route a = s.wramPlace (a.toNat - 0xC000) := by
        rcases route_cases s a with r | r | r | r | r | r | r | r | r | r <;> first | omega | exact r.2.2
      rw [r, wramPlace, if_pos (by omega), if_pos hd]
    · rw [route_wram s (by omega) h', if_neg hd]
  unfold read write
  rw [e]
  exact ⟨rfl, rfl⟩

theorem oam_access (s : State) {a : Word} (v : Byte) (h : 0xFE00 ≤ a.toNat) (h' : a.toNat < 0xFEA0) :
    let i := a.toNat - 0xFE00
    s.read a = s.mem.oam.read i ∧ s.write a v = { s with mem := { s.mem with oam := s.mem.oam.write i v } } := by
  have e : s.route a = .oam (a.toNat - 0xFE00) := by
    rcases route_cases s a with r | r | r | r | r | r | r | r | r | r <;> first | omega | exact r.2.2
  unfold read write
  rw [e]
  exact ⟨rfl, rfl⟩

theorem hram_access (s : State) {a : Word} (v : Byte) (h : 0xFF80 ≤ a.toNat) (h' : a.toNat < 0xFFFF) :
    let i := a.toNat - 0xFF80
    s.read a = s.mem.hram.read i ∧ s.write a v = { s with mem := { s.mem with hram := s.mem.hram.write i v } } := by
  have e : s.route a = .hram (a.toNat - 0xFF80) := by
    rcases route_cases s a with r | r | r | r | r | r | r | r | r | r <;> first | omega | exact r.2.2
  unfold read write
  rw [e]
  exact ⟨rfl, rfl⟩

/-! ### The I/O window -/

/-- A register whose write stores the byte and nothing else (R80). -/
theorem plainRegister (s : State) {a : Word} {n : Nat} {r : IoReg} (v : Byte) (h : a.toNat = 0xFF00 + n) (hn : n < 0x80)
    (hr : ioReg n = r) (hb : (s.writeIo r v).readIo r = v) : PlainRegister s a v (s.readIo r) (s.writeIo r v) where
  reads := (s.io_access h hn hr).1
  write := (s.io_access h hn hr).2 v
  back := by rw [(s.io_access h hn hr).2, (io_access _ h hn hr).1, hb]

/-- What P1 reads, bit by bit (R396). -/
theorem p1Reads (j : Joypad) : P1Reads j (3#2 ++ j.select ++ j.nibble) := by
  have bits : ∀ (x : BitVec 2) (p q r t : Bool),
      let w : Byte := 3#2 ++ x ++ (BitVec.ofBool t ++ BitVec.ofBool r ++ BitVec.ofBool q ++ BitVec.ofBool p)
      w.toNat / 64 = 3 ∧ w.toNat / 16 % 4 = x.toNat ∧
      w.getLsbD 0 = p ∧ w.getLsbD 1 = q ∧ w.getLsbD 2 = r ∧ w.getLsbD 3 = t := by decide
  have line : ∀ x y a d : Bool,
      (!((a && !y) || (d && !x))) = false ↔ (x = false ∧ d = true) ∨ (y = false ∧ a = true) := by decide
  obtain ⟨h1, h2, h3, h4, h5, h6⟩ := bits j.select _ _ _ _
  exact ⟨h1, h2, by rw [Joypad.nibble, h3]; exact line _ _ _ _, by rw [Joypad.nibble, h4]; exact line _ _ _ _,
    by rw [Joypad.nibble, h5]; exact line _ _ _ _, by rw [Joypad.nibble, h6]; exact line _ _ _ _⟩

/-- What STAT reads (R424). -/
theorem stat_toNat (s : State) : (s.readIo .stat).toNat =
    128 + 8 * s.ppu.statSel.toNat + 4 * s.ppu.statCoinc.toNat + modeOf s.ppu.ly.toNat s.ppu.acc := by
  have e : ∀ (x : BitVec 4) (b : Bool) (m : BitVec 2),
      (1#1 ++ x ++ BitVec.ofBool b ++ m : BitVec 8).toNat = 128 + 8 * x.toNat + 4 * b.toNat + m.toNat := by decide
  have m : s.ppu.mode.toNat = modeOf s.ppu.ly.toNat s.ppu.acc := by
    unfold Ppu.mode modeOf visibleLines
    split
    · rfl
    · split
      · rfl
      · split <;> rfl
  rw [← m]
  exact e _ _ _

/-- An address of the I/O window without a row of its own is storage (R93). -/
theorem ioReg_storage {a : Word} (h : 0xFF00 ≤ a.toNat) (h' : a.toNat < 0xFF80) (hn : a ∉ namedRegisters) :
    ioReg (a.toNat - 0xFF00) = .storage (a.toNat - 0xFF00) := by
  have key : ∀ n : Fin 128, BitVec.ofNat 16 (0xFF00 + n.val) ∉ namedRegisters → ioReg n.val = .storage n.val := by decide
  have e : BitVec.ofNat 16 (0xFF00 + (a.toNat - 0xFF00)) = a := by
    rw [Nat.add_sub_cancel' h, BitVec.ofNat_toNat, BitVec.setWidth_eq]
  exact key ⟨a.toNat - 0xFF00, by omega⟩ (by rw [e]; exact hn)

/-- Each storage byte stands behind one address (R93). -/
theorem ioReg_storage_inj {n k : Nat} (hn : n < 128) (h : ioReg n = .storage k) : n = k := by
  have key : ∀ n : Fin 128, ioReg n.val = .storage n.val ∨ ∀ k : Nat, ioReg n.val ≠ .storage k := by
    intro n
    fin_cases n <;> first | exact .inl rfl | exact .inr fun k e => nomatch e
  rcases key ⟨n, hn⟩ with e | e
  · rw [e] at h
    exact IoReg.storage.inj h
  · exact absurd h (e k)

/-- What FF55 reads in CGB mode (R466). -/
theorem hdma5_toNat (s : State) (h : s.cart.cgbMode = true) :
    (s.read 0xFF55#16).toNat = (if s.hdma.active then 0 else 128) + s.hdma.len.toNat := by
  have e : ∀ (a : Bool) (n : BitVec 7), (BitVec.ofBool (!a) ++ n : BitVec 8).toNat = (if a then 0 else 128) + n.toNat := by
    intro a
    cases a <;> decide
  have r := (io_access s (a := 0xFF55#16) (n := 0x55) (r := .hdma5) (by decide) (by decide) rfl).1
  rw [r]
  simp only [readIo, cgbOnly, if_pos h]
  exact e _ _

/-- Only the I/O window leads to a register (R61). -/
theorem route_eq_io {s : State} {b : Word} {r : IoReg} (h : s.route b = .io r) : 0xFF00 ≤ b.toNat ∧ b.toNat < 0xFF80 := by
  have he : eramPlace s.cart s.mbc (b.toNat - 0xA000) ≠ .io r := by
    unfold eramPlace
    (repeat' split) <;> exact fun e => nomatch e
  obtain ⟨i1, w1, -, -⟩ := wramPlace_eq s (b.toNat - 0xC000)
  obtain ⟨i2, w2, -, -⟩ := wramPlace_eq s (b.toNat - 0xE000)
  rcases route_cases s b with ⟨-, i, e⟩ | ⟨-, -, e⟩ | ⟨-, -, e⟩ | ⟨-, -, e⟩ | ⟨-, -, e⟩ | ⟨-, -, e⟩ | ⟨-, -, e⟩ |
    ⟨h1, h2, -⟩ | ⟨-, -, e⟩ | ⟨-, e⟩
  case inr.inr.inr.inr.inr.inr.inr.inl => exact ⟨h1, h2⟩
  all_goals
    rw [h] at e
    try rw [w1] at e
    try rw [w2] at e
    first | cases e | exact absurd e.symm he

/-- A write of a storage byte (R93): that byte, which reads back, and no other address. -/
theorem storage_write (s : State) {a : Word} (v : Byte) (h : 0xFF00 ≤ a.toNat) (h' : a.toNat < 0xFF80)
    (hn : a ∉ namedRegisters) :
    (∃ io, s.write a v = { s with mem := { s.mem with io := io } }) ∧ (s.MemoryOk → (s.write a v).read a = v) ∧
      ∀ b, b ≠ a → (s.write a v).read b = s.read b := by
  have ha := io_access s (Nat.add_sub_cancel' h).symm (by omega) (ioReg_storage h h' hn)
  have hr : s.route a = .io (.storage (a.toNat - 0xFF00)) := by rw [route_io s h h', ioReg_storage h h' hn]
  refine ⟨⟨_, ha.2 v⟩, fun hm => ?_, fun b hb => read_write_of_ne s a b v (by rw [hr]; rfl) fun e => hb ?_⟩
  · rw [ha.2, (io_access _ (Nat.add_sub_cancel' h).symm (by omega) (ioReg_storage h h' hn)).1]
    exact Memory.read_write_same hm.io _ _
  · rw [hr] at e
    have io : 0xFF00 ≤ b.toNat ∧ b.toNat < 0xFF80 := route_eq_io e
    rw [route_io s io.1 io.2] at e
    have := ioReg_storage_inj (by omega) (Place.io.inj e)
    exact BitVec.eq_of_toNat_eq (by omega)

end State
end Sys2Proof.Machine
end

