-- ==== Sys2Proof/Laws/Devices.lean ====
section
/-! SUPPORT. What the timer's tick, the PPU's tick and the interrupt check can do: one lemma each says every field that may
change. -/

namespace Sys2Proof.Machine

namespace State

/-! ### Timer -/

/-- A TIMA increment changes TIMA and trigger bits. -/
theorem timaIncrement_eq (s : State) :
    ∃ tima flags, s.timaIncrement = { s with timer := { s.timer with tima := tima }, irq := { s.irq with flags := flags } } := by
  unfold timaIncrement
  split
  · exact ⟨_, _, rfl⟩
  · exact ⟨_, _, rfl⟩

theorem timaIncrements_eq (n : Nat) (s : State) :
    ∃ tima flags, timaIncrements n s =
      { s with timer := { s.timer with tima := tima }, irq := { s.irq with flags := flags } } := by
  induction n generalizing s with
  | zero => exact ⟨s.timer.tima, s.irq.flags, rfl⟩
  | succ n ih =>
    obtain ⟨a, f, h⟩ := timaIncrement_eq s
    obtain ⟨a', f', h'⟩ := ih { s with timer := { s.timer with tima := a }, irq := { s.irq with flags := f } }
    rw [timaIncrements, h, h']
    exact ⟨_, _, rfl⟩

/-- The timer's tick changes the timer and trigger bits (R390). -/
theorem timerTick_eq (s : State) (cyc : Nat) :
    ∃ timer flags, s.timerTick cyc = { s with timer := timer, irq := { s.irq with flags := flags } } := by
  unfold timerTick timaTick divTick
  dsimp only
  split
  · obtain ⟨a, f, h⟩ := timaIncrements_eq
      ((s.timer.timaSub + cyc) / timaPeriod (s.timer.tac.extractLsb' 0 2))
      { s with timer := { s.timer with
        div := s.timer.div + BitVec.ofNat 8 ((s.timer.divSub + cyc) / s.config.divPeriod)
        divSub := (s.timer.divSub + cyc) % s.config.divPeriod
        timaSub := (s.timer.timaSub + cyc) % timaPeriod (s.timer.tac.extractLsb' 0 2) } }
    exact ⟨_, _, h⟩
  · exact ⟨_, _, rfl⟩

/-! ### PPU -/

/-- What the PPU's work can change: VRAM and the HDMA registers by an H-Blank chunk, its own fields but not the palettes
and control registers, trigger bits, the carried cycles. -/
structure PpuWork (s t : State) : Prop where
  frame : t = { s with
    irq := { s.irq with flags := t.irq.flags }
    mem := { s.mem with vram := t.mem.vram }
    ppu := { s.ppu with
      ly := t.ppu.ly, acc := t.ppu.acc, statCoinc := t.ppu.statCoinc
      raster := t.ppu.raster, published := t.ppu.published, tag := t.ppu.tag, bgIdx := t.ppu.bgIdx }
    hdma := t.hdma
    carryCycles := t.carryCycles }
  vram  : s.mem.vram.wf → t.mem.vram.wf
  hdma  : s.HdmaOk → t.HdmaOk
  carry : ∃ k, t.carryCycles = s.carryCycles + hdmaChunkCycles * k

theorem PpuWork.refl (s : State) : PpuWork s s := ⟨rfl, id, id, 0, rfl⟩

theorem PpuWork.tr {s t u : State} (h : PpuWork s t) (k : PpuWork t u) : PpuWork s u where
  frame := by rw [k.frame, h.frame]
  vram := k.vram ∘ h.vram
  hdma := k.hdma ∘ h.hdma
  carry := by
    obtain ⟨a, ha⟩ := h.carry
    obtain ⟨b, hb⟩ := k.carry
    exact ⟨a + b, by rw [hb, ha]; ring⟩

theorem PpuWork.raise (s : State) (k : Fin 5) : PpuWork s (s.raise k) := ⟨rfl, id, id, 0, rfl⟩

theorem PpuWork.raiseIf (s : State) (b : Bool) (k : Fin 5) : PpuWork s (s.raiseIf b k) := by
  unfold State.raiseIf
  split
  · exact .raise s k
  · exact .refl s

theorem PpuWork.hblankChunk (s : State) : PpuWork s s.hblankChunk := by
  obtain ⟨vram, src, dst, len, active, h, hw, hh⟩ := hblankChunk_eq s
  rw [h]
  exact ⟨rfl, hw, hh, 1, rfl⟩

theorem PpuWork.hblankEvent (s : State) : PpuWork s s.hblankEvent := by
  unfold State.hblankEvent
  dsimp only
  split
  · exact (PpuWork.raiseIf s _ 1).tr (.hblankChunk _)
  · exact .raiseIf s _ 1

theorem PpuWork.nextLine (s : State) : PpuWork s s.nextLine := ⟨rfl, id, id, 0, rfl⟩

theorem PpuWork.renderScanline (s : State) (n : Nat) : PpuWork s (s.renderScanline n) := ⟨rfl, id, id, 0, rfl⟩

theorem PpuWork.enterVBlank (s : State) : PpuWork s s.enterVBlank := by
  unfold State.enterVBlank
  exact (PpuWork.mk rfl id id ⟨0, rfl⟩ : PpuWork s { s with ppu := { s.ppu with published := s.ppu.raster } }).tr
    ((PpuWork.raiseIf _ _ 0).tr (.raiseIf _ _ 1))

theorem PpuWork.updateStat (s : State) : PpuWork s s.updateStat := by
  unfold State.updateStat
  exact (PpuWork.mk rfl id id ⟨0, rfl⟩ :
    PpuWork s { s with ppu := { s.ppu with statCoinc := s.ppu.ly == s.ppu.lyc } }).tr
    ((PpuWork.raiseIf _ _ 1).tr (.raiseIf _ _ 1))

/-- A conditional part of the PPU's work. -/
theorem PpuWork.ite (s : State) (p : Prop) [Decidable p] (g : State → State) (h : PpuWork s (g s)) :
    PpuWork s (if p then g s else s) := by
  split
  · exact h
  · exact .refl s

/-- Completing a scanline (R421). -/
theorem PpuWork.completeLine (s : State) : PpuWork s s.completeLine := by
  unfold State.completeLine
  exact (PpuWork.mk rfl id id ⟨0, rfl⟩ :
      PpuWork s { s with ppu := { s.ppu with acc := s.ppu.acc - lineCycles } }).tr
    ((PpuWork.ite _ _ State.hblankEvent (.hblankEvent _)).tr
      ((PpuWork.nextLine _).tr
        ((PpuWork.ite _ _ (fun s => s.renderScanline s.ppu.ly.toNat) (.renderScanline _ _)).tr
          ((PpuWork.ite _ _ State.enterVBlank (.enterVBlank _)).tr (.updateStat _)))))

theorem PpuWork.completeLines (n : Nat) (s : State) : PpuWork s (completeLines n s) := by
  induction n generalizing s with
  | zero => exact .refl s
  | succ n ih => exact (PpuWork.completeLine s).tr (ih _)

/-- The PPU's tick (R421). -/
theorem PpuWork.ppuTick (s : State) (cyc : Nat) : PpuWork s (s.ppuTick cyc) := by
  unfold State.ppuTick
  exact (PpuWork.mk rfl id id ⟨0, rfl⟩ : PpuWork s { s with ppu := { s.ppu with acc := s.ppu.acc + cyc } }).tr
    (.completeLines _ _)

/-! The line counters, part by part. -/

@[simp] theorem raiseIf_ppu (s : State) (b : Bool) (k : Fin 5) : (s.raiseIf b k).ppu = s.ppu := by
  unfold raiseIf
  split <;> rfl

@[simp] theorem hblankEvent_ppu (s : State) : s.hblankEvent.ppu = s.ppu := by
  unfold hblankEvent
  dsimp only
  split
  · obtain ⟨vram, src, dst, len, active, h, -⟩ := hblankChunk_eq (s.raiseIf (s.ppu.statSel.getLsbD 0) 1)
    rw [h]
    exact raiseIf_ppu s _ 1
  · exact raiseIf_ppu s _ 1

@[simp] theorem enterVBlank_ppu (s : State) : s.enterVBlank.ppu = { s.ppu with published := s.ppu.raster } := by
  simp [enterVBlank]

@[simp] theorem updateStat_ppu (s : State) :
    s.updateStat.ppu = { s.ppu with statCoinc := s.ppu.ly == s.ppu.lyc } := by
  simp [updateStat]

/-- A completed line moves LY on and takes one line from the accumulator (R421). -/
theorem completeLine_line (s : State) :
    s.completeLine.ppu.ly = BitVec.ofNat 8 ((s.ppu.ly.toNat + 1) % linesPerFrame) ∧
      s.completeLine.ppu.acc = s.ppu.acc - lineCycles := by
  have hb : ∀ (u : State) (p : Prop) [Decidable p], (if p then u.hblankEvent else u).ppu = u.ppu := by
    intro u p _
    split
    · exact hblankEvent_ppu u
    · rfl
  have hr : ∀ (u : State) (p : Prop) [Decidable p] (n : Nat),
      (if p then u.renderScanline n else u).ppu.ly = u.ppu.ly ∧ (if p then u.renderScanline n else u).ppu.acc = u.ppu.acc := by
    intro u p _ n
    split <;> exact ⟨rfl, rfl⟩
  have hv : ∀ (u : State) (p : Prop) [Decidable p],
      (if p then u.enterVBlank else u).ppu.ly = u.ppu.ly ∧ (if p then u.enterVBlank else u).ppu.acc = u.ppu.acc := by
    intro u p _
    split
    · rw [enterVBlank_ppu]; exact ⟨rfl, rfl⟩
    · exact ⟨rfl, rfl⟩
  unfold completeLine
  dsimp only
  rw [updateStat_ppu]
  dsimp only
  rw [(hv _ _).1, (hv _ _).2, (hr _ _ _).1, (hr _ _ _).2]
  unfold nextLine
  dsimp only
  rw [hb]
  exact ⟨rfl, rfl⟩

/-! ### Interrupts -/

/-- The interrupt check does nothing, or takes a pending source (R381, R382). -/
theorem interruptCheck_cases (s : State) :
    s.interruptCheck = s ∨ (s.cpu.ime = true ∧ ∃ k, s.interruptCheck = s.takeInterrupt k) := by
  unfold interruptCheck
  split
  · rename_i h
    split
    · exact .inr ⟨h, _, rfl⟩
    · exact .inl rfl
  · exact .inl rfl

/-- The CPU after taking an interrupt (R382). -/
theorem takeInterrupt_cpu (s : State) (k : Fin 5) :
    (s.takeInterrupt k).cpu = { s.cpu with
      sp := s.cpu.sp - 2#16, pc := interruptVector k, ime := false, imePending := false, halted := false } := by
  simp only [takeInterrupt, push16_cpu]

end State

end Sys2Proof.Machine
end

