-- ==== Sys2Proof/Laws/Exec.lean ====
section
/-! SUPPORT. What an instruction can do, said once: `exec` by form, and `exec_effect`, from which the rules about all
instructions follow. -/

namespace Sys2Proof.Machine

/-! ### `exec` by form -/

theorem exec_ldReg {dst src : R8} (s : State) (h : dst ≠ .atHL ∨ src ≠ .atHL) :
    exec (.ldReg dst src) s = ldReg dst src s := by
  cases dst <;> cases src <;> first | rfl | simp at h

theorem exec_ldImm (dst : R8) (n : Byte) (s : State) : exec (.ldImm dst n) s = ldImm dst n s := by cases dst <;> rfl

theorem exec_aluReg (op : AluOp) (r : R8) (s : State) : exec (.aluReg op r) s = aluReg op r s := by
  cases op <;> cases r <;> rfl

theorem exec_aluImm (op : AluOp) (n : Byte) (s : State) : exec (.aluImm op n) s = aluImm op n s := by cases op <;> rfl

theorem exec_incReg (r : R8) (s : State) : exec (.incReg r) s = incReg r s := by cases r <;> rfl

theorem exec_decReg (r : R8) (s : State) : exec (.decReg r) s = decReg r s := by cases r <;> rfl

theorem exec_ldPair (p : Rp) (n : Word) (s : State) : exec (.ldPair p n) s = ldPair p n s := by cases p <;> rfl

theorem exec_pushPair (p : Rp2) (s : State) : exec (.pushPair p) s = pushPair p s := by cases p <;> rfl

theorem exec_popPair (p : Rp2) (s : State) : exec (.popPair p) s = popPair p s := by cases p <;> rfl

theorem exec_addHL (p : Rp) (s : State) : exec (.addHL p) s = addHL p s := by cases p <;> rfl

theorem exec_incPair (p : Rp) (s : State) : exec (.incPair p) s = addPair p 1#16 s := by cases p <;> rfl

theorem exec_decPair (p : Rp) (s : State) : exec (.decPair p) s = addPair p (-1#16) s := by cases p <;> rfl

theorem exec_rot (op : RotOp) (r : R8) (s : State) : exec (.rot op r) s = rotReg op r s := by
  cases op <;> cases r <;> rfl

theorem exec_bit (n : Fin 8) (r : R8) (s : State) : exec (.bit n r) s = bitReg n r s := by
  fin_cases n <;> cases r <;> rfl

theorem exec_res (n : Fin 8) (r : R8) (s : State) : exec (.res n r) s = resReg n r s := by
  fin_cases n <;> cases r <;> rfl

theorem exec_set (n : Fin 8) (r : R8) (s : State) : exec (.set n r) s = setReg n r s := by
  fin_cases n <;> cases r <;> rfl

theorem exec_jpIf (k : Cond) (a : Word) (s : State) : exec (.jpIf k a) s = jpIf k a s := by cases k <;> rfl

theorem exec_jrIf (k : Cond) (e : Byte) (s : State) : exec (.jrIf k e) s = jrIf k e s := by cases k <;> rfl

theorem exec_callIf (k : Cond) (a : Word) (s : State) : exec (.callIf k a) s = callIf k a s := by cases k <;> rfl

theorem exec_retIf (k : Cond) (s : State) : exec (.retIf k) s = retIf k s := by cases k <;> rfl

theorem exec_rst (y : Fin 8) (s : State) : exec (.rst y) s = rst y s := by fin_cases y <;> rfl

theorem exec_illegal (o : IllegalOp) (s : State) : exec (.illegal o) s = .next (s.raiseIllegal o.opcode) := by
  cases o <;> rfl

/-! ### What an instruction can do -/

namespace State

/-- Bus writes one after another. -/
def writes (s : State) (l : List (Word × Byte)) : State := l.foldl (fun s p => s.write p.1 p.2) s

theorem writes_core (l : List (Word × Byte)) (s : State) : SameCore s (s.writes l) ∧ SameLine s (s.writes l) := by
  induction l generalizing s with
  | nil => exact ⟨.refl s, .refl s⟩
  | cons p l ih =>
    have h := write_core s p.1 p.2
    have k := ih (s.write p.1 p.2)
    exact ⟨h.1.tr k.1, h.2.tr k.2⟩

theorem writes_memoryOk (l : List (Word × Byte)) {s : State} (h : s.MemoryOk) : (s.writes l).MemoryOk := by
  induction l generalizing s with
  | nil => exact h
  | cons p l ih => exact ih (write_memoryOk h p.1 p.2)

theorem writes_hdmaOk (l : List (Word × Byte)) {s : State} (h : s.HdmaOk) : (s.writes l).HdmaOk := by
  induction l generalizing s with
  | nil => exact h
  | cons p l ih => exact ih (write_hdmaOk h p.1 p.2)

theorem writes_carry (l : List (Word × Byte)) (s : State) :
    ∃ k, (s.writes l).carryCycles = s.carryCycles + hdmaChunkCycles * k := by
  induction l generalizing s with
  | nil => exact ⟨0, rfl⟩
  | cons p l ih =>
    obtain ⟨k, h⟩ := write_carry s p.1 p.2
    obtain ⟨j, h'⟩ := ih (s.write p.1 p.2)
    exact ⟨k + j, by rw [show (s.writes (p :: l)) = (s.write p.1 p.2).writes l from rfl, h', h]; ring⟩

end State

/-- What a CPU can look like after an instruction that does not fault. -/
structure CpuStepOk (mayEnable : Prop) (c d : Cpu) : Prop where
  low     : c.f &&& 0x0F#8 = 0x00#8 → d.f &&& 0x0F#8 = 0x00#8
  ime     : d.ime = true → c.ime = true ∨ mayEnable
  faulted : d.faulted = c.faulted

/-- An instruction's effect: bus writes, then new CPU registers and a count; or the Faulted condition. -/
def Effect (mayEnable : Prop) (s : State) (r : Result) : Prop :=
  (∃ (l : List (Word × Byte)) (c : Cpu) (n : Nat), r = .next { s.writes l with cpu := c, cycles := 4 * (n + 1) } ∧
    CpuStepOk mayEnable s.cpu c) ∨
  ∃ op, r = .next (s.raiseIllegal op)

theorem mkF_low (z n h c : Bool) : mkF z n h c &&& 0x0F#8 = 0x00#8 := by
  cases z <;> cases n <;> cases h <;> cases c <;> decide

theorem masked_low (v : Byte) : (v &&& 0xF0#8) &&& 0x0F#8 = 0x00#8 := by rw [BitVec.and_assoc]; simp

theorem alu8_low (op : AluOp) (a b f : Byte) : (alu8 op a b f).flags &&& 0x0F#8 = 0x00#8 := by
  cases op <;> exact mkF_low _ _ _ _

theorem daa8_low (a f : Byte) : (daa8 a f).flags &&& 0x0F#8 = 0x00#8 := by
  unfold daa8
  split <;> exact mkF_low _ _ _ _

/-- An effect on the CPU alone. -/
theorem effect_cpu {p : Prop} {s : State} {g : Cpu → Cpu} {n : Nat} (h : CpuStepOk p s.cpu (g s.cpu)) :
    Effect p s (done (s.onCpu g) (4 * (n + 1))) := .inl ⟨[], g s.cpu, n, rfl, h⟩

theorem CpuStepOk.same {p : Prop} {c d : Cpu} (h : d.f = c.f) (hi : d.ime = c.ime) (hf : d.faulted = c.faulted) :
    CpuStepOk p c d := ⟨fun k => h ▸ k, fun k => .inl (hi ▸ k), hf⟩

theorem CpuStepOk.flags {p : Prop} {c d : Cpu} (h : d.f &&& 0x0F#8 = 0x00#8) (hi : d.ime = c.ime)
    (hf : d.faulted = c.faulted) : CpuStepOk p c d := ⟨fun _ => h, fun k => .inl (hi ▸ k), hf⟩

theorem costOf_four (r : R8) (x y : Nat) : ∃ n, costOf r (4 * (x + 1)) (4 * (y + 1)) = 4 * (n + 1) := by
  cases r <;> exact ⟨_, rfl⟩

/-- Writing an 8-bit operand, then registers that `g` sets, F among them or not. -/
theorem effect_set8 {p : Prop} (s : State) (r : R8) (v : Byte) (g : Cpu → Cpu) {n : Nat}
    (h : ∀ c : Cpu, c.f = s.cpu.f → c.ime = s.cpu.ime → c.faulted = s.cpu.faulted → CpuStepOk p s.cpu (g c)) :
    Effect p s (done ((s.set8 r v).onCpu g) (4 * (n + 1))) := by
  cases r
  case atHL =>
    refine .inl ⟨[(s.cpu.hl, v)], g s.cpu, n, ?_, h _ rfl rfl rfl⟩
    show Host.Outcome.next _ = Host.Outcome.next _
    simp only [State.set8, State.writes, List.foldl, State.onCpu, State.report, State.write_cpu]
  all_goals exact .inl ⟨[], _, n, rfl, h _ rfl rfl rfl⟩

/-- The same without further registers. -/
theorem effect_set8' {p : Prop} (s : State) (r : R8) (v : Byte) {n : Nat} :
    Effect p s (done (s.set8 r v) (4 * (n + 1))) :=
  effect_set8 s r v id fun _ hf hi hx => .same hf hi hx

theorem effect_ldReg (p : Prop) (dst src : R8) (s : State) : Effect p s (ldReg dst src s) := by
  unfold ldReg
  obtain ⟨n, h⟩ := costOf_four src 0 1
  obtain ⟨m, k⟩ := costOf_four dst n 1
  rw [show costOf src 4 8 = 4 * (n + 1) from h, show costOf dst (4 * (n + 1)) 8 = 4 * (m + 1) from k]
  exact effect_set8' s dst _

theorem effect_ldImm (p : Prop) (dst : R8) (n : Byte) (s : State) : Effect p s (ldImm dst n s) := by
  unfold ldImm
  obtain ⟨m, k⟩ := costOf_four dst 1 2
  rw [show costOf dst 8 12 = 4 * (m + 1) from k]
  exact effect_set8' s dst _

theorem effect_loadA (p : Prop) (a : Word) (n : Nat) (s : State) : Effect p s (loadA a (4 * (n + 1)) s) :=
  effect_set8' s .a _

theorem effect_storeA (p : Prop) (a : Word) (n : Nat) (s : State) : Effect p s (storeA a (4 * (n + 1)) s) := by
  refine .inl ⟨[(a, s.cpu.a)], s.cpu, n, ?_, .same rfl rfl rfl⟩
  show Host.Outcome.next _ = Host.Outcome.next _
  simp only [State.writes, List.foldl]
  have h := State.write_cpu s a s.cpu.a
  generalize s.write a s.cpu.a = t at h ⊢
  rw [← h]
  rfl

theorem effect_loadAStep (p : Prop) (d : Word) (s : State) : Effect p s (loadAStep d s) :=
  effect_set8 (n := 1) s .a _ _ fun _ hf hi hx => .same hf hi hx

theorem effect_storeAStep (p : Prop) (d : Word) (s : State) : Effect p s (storeAStep d s) :=
  .inl ⟨[(s.cpu.hl, s.cpu.a)], s.cpu.setHL (s.cpu.hl + d), 1, by
    show Host.Outcome.next _ = Host.Outcome.next _
    simp only [State.writes, List.foldl, State.report, State.onCpu, State.write_cpu], .same rfl rfl rfl⟩

theorem setRp_keeps (c : Cpu) (q : Rp) (v : Word) :
    (c.setRp q v).f = c.f ∧ (c.setRp q v).ime = c.ime ∧ (c.setRp q v).faulted = c.faulted := by
  cases q <;> exact ⟨rfl, rfl, rfl⟩

theorem effect_ldPair (p : Prop) (q : Rp) (n : Word) (s : State) : Effect p s (ldPair q n s) :=
  effect_cpu (n := 2) (.same (setRp_keeps _ _ _).1 (setRp_keeps _ _ _).2.1 (setRp_keeps _ _ _).2.2)

theorem effect_storeSP (p : Prop) (a : Word) (s : State) : Effect p s (storeSP a s) := by
  refine .inl ⟨[(a, s.cpu.sp.lo), (a + 1#16, s.cpu.sp.hi)], s.cpu, 4, ?_, .same rfl rfl rfl⟩
  show Host.Outcome.next _ = Host.Outcome.next _
  simp only [State.writes, List.foldl, State.write16]
  have h : ((s.write a s.cpu.sp.lo).write (a + 1#16) s.cpu.sp.hi).cpu = s.cpu := by simp
  generalize (s.write a s.cpu.sp.lo).write (a + 1#16) s.cpu.sp.hi = t at h ⊢
  rw [← h]
  rfl

theorem effect_ldSPHL (p : Prop) (s : State) : Effect p s (ldSPHL s) := effect_cpu (n := 1) (.same rfl rfl rfl)

/-- A push, then registers that `g` sets. -/
theorem effect_push {p : Prop} (s : State) (v : Word) (g : Cpu → Cpu) {n : Nat}
    (h : CpuStepOk p s.cpu (g { s.cpu with sp := s.cpu.sp - 2#16 })) :
    Effect p s (done ((s.push16 v).onCpu g) (4 * (n + 1))) := by
  refine .inl ⟨[(s.cpu.sp - 1#16, v.hi), (s.cpu.sp - 2#16, v.lo)], _, n, ?_, h⟩
  show Host.Outcome.next _ = Host.Outcome.next _
  simp only [State.writes, List.foldl, State.report, State.push16, State.onCpu, State.write_cpu]

theorem effect_pushPair (p : Prop) (q : Rp2) (s : State) : Effect p s (pushPair q s) :=
  effect_push (n := 3) s _ id (.same rfl rfl rfl)

theorem effect_popPair (p : Prop) (q : Rp2) (s : State) : Effect p s (popPair q s) := by
  refine effect_cpu (n := 2) (g := fun c => ({ c with sp := c.sp + 2#16 } : Cpu).setRp2 q s.popValue) ?_
  cases q
  case af => exact .flags (masked_low _) rfl rfl
  all_goals exact .same rfl rfl rfl

theorem effect_aluA (p : Prop) (op : AluOp) (b : Byte) (n : Nat) (s : State) : Effect p s (aluA op b (4 * (n + 1)) s) :=
  effect_cpu (.flags (alu8_low _ _ _ _) rfl rfl)

theorem effect_aluReg (p : Prop) (op : AluOp) (r : R8) (s : State) : Effect p s (aluReg op r s) := by
  unfold aluReg
  obtain ⟨n, h⟩ := costOf_four r 0 1
  rw [show costOf r 4 8 = 4 * (n + 1) from h]
  exact effect_aluA p op _ n s

theorem effect_aluImm (p : Prop) (op : AluOp) (n : Byte) (s : State) : Effect p s (aluImm op n s) :=
  effect_aluA p op n 1 s

theorem effect_incReg (p : Prop) (r : R8) (s : State) : Effect p s (incReg r s) := by
  unfold incReg
  obtain ⟨n, h⟩ := costOf_four r 0 2
  rw [show costOf r 4 12 = 4 * (n + 1) from h]
  exact effect_set8 s r _ _ fun _ _ hi hx => .flags (mkF_low _ _ _ _) hi hx

theorem effect_decReg (p : Prop) (r : R8) (s : State) : Effect p s (decReg r s) := by
  unfold decReg
  obtain ⟨n, h⟩ := costOf_four r 0 2
  rw [show costOf r 4 12 = 4 * (n + 1) from h]
  exact effect_set8 s r _ _ fun _ _ hi hx => .flags (mkF_low _ _ _ _) hi hx

theorem effect_adjustA (p : Prop) (g : Byte → Byte → Out8) (hg : ∀ a f, (g a f).flags &&& 0x0F#8 = 0x00#8) (s : State) :
    Effect p s (adjustA g s) := effect_cpu (n := 0) (.flags (hg _ _) rfl rfl)

theorem effect_carryOp (p : Prop) (g : Byte → Byte) (hg : ∀ f, g f &&& 0x0F#8 = 0x00#8) (s : State) :
    Effect p s (carryOp g s) := effect_cpu (n := 0) (.flags (hg _) rfl rfl)

theorem effect_addHL (p : Prop) (q : Rp) (s : State) : Effect p s (addHL q s) :=
  effect_cpu (n := 1) (g := fun c => { c.setHL (addHL16 s.cpu.hl (s.cpu.getRp q) s.cpu.f).value with
    f := (addHL16 s.cpu.hl (s.cpu.getRp q) s.cpu.f).flags }) (.flags (mkF_low _ _ _ _) rfl rfl)

theorem effect_addPair (p : Prop) (q : Rp) (d : Word) (s : State) : Effect p s (addPair q d s) :=
  effect_cpu (n := 1) (.same (setRp_keeps _ _ _).1 (setRp_keeps _ _ _).2.1 (setRp_keeps _ _ _).2.2)

theorem effect_addSP (p : Prop) (e : Byte) (s : State) : Effect p s (addSP e s) :=
  effect_cpu (n := 3) (g := fun c => { c.setRp .sp (addSigned16 s.cpu.sp e).value with
    f := (addSigned16 s.cpu.sp e).flags }) (.flags (mkF_low _ _ _ _) rfl rfl)

theorem effect_ldHLSP (p : Prop) (e : Byte) (s : State) : Effect p s (ldHLSP e s) :=
  effect_cpu (n := 2) (g := fun c => { c.setHL (addSigned16 s.cpu.sp e).value with
    f := (addSigned16 s.cpu.sp e).flags }) (.flags (mkF_low _ _ _ _) rfl rfl)

theorem effect_rotateA (p : Prop) (op : RotOp) (s : State) : Effect p s (rotateA op s) :=
  effect_cpu (n := 0) (.flags (mkF_low _ _ _ _) rfl rfl)

theorem effect_rotReg (p : Prop) (op : RotOp) (r : R8) (s : State) : Effect p s (rotReg op r s) := by
  unfold rotReg
  obtain ⟨n, h⟩ := costOf_four r 1 3
  rw [show costOf r 8 16 = 4 * (n + 1) from h]
  exact effect_set8 s r _ _ fun _ _ hi hx => .flags (mkF_low _ _ _ _) hi hx

theorem effect_bitReg (p : Prop) (b : Fin 8) (r : R8) (s : State) : Effect p s (bitReg b r s) := by
  unfold bitReg
  obtain ⟨n, h⟩ := costOf_four r 1 2
  rw [show costOf r 8 12 = 4 * (n + 1) from h]
  exact effect_cpu (.flags (mkF_low _ _ _ _) rfl rfl)

theorem effect_resReg (p : Prop) (b : Fin 8) (r : R8) (s : State) : Effect p s (resReg b r s) := by
  unfold resReg
  obtain ⟨n, h⟩ := costOf_four r 1 3
  rw [show costOf r 8 16 = 4 * (n + 1) from h]
  exact effect_set8' s r _

theorem effect_setReg (p : Prop) (b : Fin 8) (r : R8) (s : State) : Effect p s (setReg b r s) := by
  unfold setReg
  obtain ⟨n, h⟩ := costOf_four r 1 3
  rw [show costOf r 8 16 = 4 * (n + 1) from h]
  exact effect_set8' s r _

theorem effect_cbOp (p : Prop) (o : Byte) (s : State) : Effect p s (cbOp o s) := by
  unfold cbOp
  split
  · exact effect_rotReg ..
  · exact effect_bitReg ..
  · exact effect_resReg ..
  · exact effect_setReg ..

theorem effect_jump (p : Prop) (a : Word) (n : Nat) (s : State) : Effect p s (done (s.jump a) (4 * (n + 1))) :=
  effect_cpu (.same rfl rfl rfl)

theorem effect_idle (p : Prop) (n : Nat) (s : State) : Effect p s (done s (4 * (n + 1))) :=
  effect_cpu (g := id) (.same rfl rfl rfl)

theorem effect_call (p : Prop) (a : Word) (n : Nat) (s : State) : Effect p s (done (s.call a) (4 * (n + 1))) :=
  effect_push s _ _ (.same rfl rfl rfl)

theorem effect_ret (p : Prop) (n : Nat) (s : State) : Effect p s (done s.ret (4 * (n + 1))) :=
  effect_cpu (g := fun c => { c with sp := c.sp + 2#16, pc := s.popValue }) (.same rfl rfl rfl)

theorem effect_jpIf (p : Prop) (k : Cond) (a : Word) (s : State) : Effect p s (jpIf k a s) := by
  unfold jpIf
  split
  · exact effect_jump p a 3 s
  · exact effect_idle p 2 s

theorem effect_jrIf (p : Prop) (k : Cond) (e : Byte) (s : State) : Effect p s (jrIf k e s) := by
  unfold jrIf
  split
  · exact effect_jump p _ 2 s
  · exact effect_idle p 1 s

theorem effect_callIf (p : Prop) (k : Cond) (a : Word) (s : State) : Effect p s (callIf k a s) := by
  unfold callIf
  split
  · exact effect_call p a 5 s
  · exact effect_idle p 2 s

theorem effect_retIf (p : Prop) (k : Cond) (s : State) : Effect p s (retIf k s) := by
  unfold retIf
  split
  · exact effect_ret p 4 s
  · exact effect_idle p 1 s

/-- What an instruction can do. Only `RETI` turns IME on itself. -/
theorem exec_effect (i : Instr) (s : State) : Effect (i = .reti) s (exec i s) := by
  cases i
  case nop => exact effect_idle _ 0 s
  case ld_BC_n16 => exact effect_ldPair _ _ _ s
  case ld_atBC_A => exact effect_storeA _ _ 1 s
  case inc_BC => exact effect_addPair _ _ _ s
  case inc_B => exact effect_incReg _ _ s
  case dec_B => exact effect_decReg _ _ s
  case ld_B_n8 => exact effect_ldImm _ _ _ s
  case rlca => exact effect_rotateA _ _ s
  case ld_atA16_SP => exact effect_storeSP _ _ s
  case add_HL_BC => exact effect_addHL _ _ s
  case ld_A_atBC => exact effect_loadA _ _ 1 s
  case dec_BC => exact effect_addPair _ _ _ s
  case inc_C => exact effect_incReg _ _ s
  case dec_C => exact effect_decReg _ _ s
  case ld_C_n8 => exact effect_ldImm _ _ _ s
  case rrca => exact effect_rotateA _ _ s
  case stop => exact effect_idle _ 0 s
  case ld_DE_n16 => exact effect_ldPair _ _ _ s
  case ld_atDE_A => exact effect_storeA _ _ 1 s
  case inc_DE => exact effect_addPair _ _ _ s
  case inc_D => exact effect_incReg _ _ s
  case dec_D => exact effect_decReg _ _ s
  case ld_D_n8 => exact effect_ldImm _ _ _ s
  case rla => exact effect_rotateA _ _ s
  case jr_e8 => exact effect_jump _ _ 2 s
  case add_HL_DE => exact effect_addHL _ _ s
  case ld_A_atDE => exact effect_loadA _ _ 1 s
  case dec_DE => exact effect_addPair _ _ _ s
  case inc_E => exact effect_incReg _ _ s
  case dec_E => exact effect_decReg _ _ s
  case ld_E_n8 => exact effect_ldImm _ _ _ s
  case rra => exact effect_rotateA _ _ s
  case jr_NZ_e8 => exact effect_jrIf _ _ _ s
  case ld_HL_n16 => exact effect_ldPair _ _ _ s
  case ld_atHLI_A => exact effect_storeAStep _ _ s
  case inc_HL => exact effect_addPair _ _ _ s
  case inc_H => exact effect_incReg _ _ s
  case dec_H => exact effect_decReg _ _ s
  case ld_H_n8 => exact effect_ldImm _ _ _ s
  case daa => exact effect_adjustA _ daa8 daa8_low s
  case jr_Z_e8 => exact effect_jrIf _ _ _ s
  case add_HL_HL => exact effect_addHL _ _ s
  case ld_A_atHLI => exact effect_loadAStep _ _ s
  case dec_HL => exact effect_addPair _ _ _ s
  case inc_L => exact effect_incReg _ _ s
  case dec_L => exact effect_decReg _ _ s
  case ld_L_n8 => exact effect_ldImm _ _ _ s
  case cpl => exact effect_adjustA _ cpl8 (fun _ _ => mkF_low _ _ _ _) s
  case jr_NC_e8 => exact effect_jrIf _ _ _ s
  case ld_SP_n16 => exact effect_ldPair _ _ _ s
  case ld_atHLD_A => exact effect_storeAStep _ _ s
  case inc_SP => exact effect_addPair _ _ _ s
  case inc_atHL => exact effect_incReg _ _ s
  case dec_atHL => exact effect_decReg _ _ s
  case ld_atHL_n8 => exact effect_ldImm _ _ _ s
  case scf => exact effect_carryOp _ scfFlags (fun _ => mkF_low _ _ _ _) s
  case jr_C_e8 => exact effect_jrIf _ _ _ s
  case add_HL_SP => exact effect_addHL _ _ s
  case ld_A_atHLD => exact effect_loadAStep _ _ s
  case dec_SP => exact effect_addPair _ _ _ s
  case inc_A => exact effect_incReg _ _ s
  case dec_A => exact effect_decReg _ _ s
  case ld_A_n8 => exact effect_ldImm _ _ _ s
  case ccf => exact effect_carryOp _ ccfFlags (fun _ => mkF_low _ _ _ _) s
  case ld_B_B => exact effect_ldReg _ _ _ s
  case ld_B_C => exact effect_ldReg _ _ _ s
  case ld_B_D => exact effect_ldReg _ _ _ s
  case ld_B_E => exact effect_ldReg _ _ _ s
  case ld_B_H => exact effect_ldReg _ _ _ s
  case ld_B_L => exact effect_ldReg _ _ _ s
  case ld_B_atHL => exact effect_ldReg _ _ _ s
  case ld_B_A => exact effect_ldReg _ _ _ s
  case ld_C_B => exact effect_ldReg _ _ _ s
  case ld_C_C => exact effect_ldReg _ _ _ s
  case ld_C_D => exact effect_ldReg _ _ _ s
  case ld_C_E => exact effect_ldReg _ _ _ s
  case ld_C_H => exact effect_ldReg _ _ _ s
  case ld_C_L => exact effect_ldReg _ _ _ s
  case ld_C_atHL => exact effect_ldReg _ _ _ s
  case ld_C_A => exact effect_ldReg _ _ _ s
  case ld_D_B => exact effect_ldReg _ _ _ s
  case ld_D_C => exact effect_ldReg _ _ _ s
  case ld_D_D => exact effect_ldReg _ _ _ s
  case ld_D_E => exact effect_ldReg _ _ _ s
  case ld_D_H => exact effect_ldReg _ _ _ s
  case ld_D_L => exact effect_ldReg _ _ _ s
  case ld_D_atHL => exact effect_ldReg _ _ _ s
  case ld_D_A => exact effect_ldReg _ _ _ s
  case ld_E_B => exact effect_ldReg _ _ _ s
  case ld_E_C => exact effect_ldReg _ _ _ s
  case ld_E_D => exact effect_ldReg _ _ _ s
  case ld_E_E => exact effect_ldReg _ _ _ s
  case ld_E_H => exact effect_ldReg _ _ _ s
  case ld_E_L => exact effect_ldReg _ _ _ s
  case ld_E_atHL => exact effect_ldReg _ _ _ s
  case ld_E_A => exact effect_ldReg _ _ _ s
  case ld_H_B => exact effect_ldReg _ _ _ s
  case ld_H_C => exact effect_ldReg _ _ _ s
  case ld_H_D => exact effect_ldReg _ _ _ s
  case ld_H_E => exact effect_ldReg _ _ _ s
  case ld_H_H => exact effect_ldReg _ _ _ s
  case ld_H_L => exact effect_ldReg _ _ _ s
  case ld_H_atHL => exact effect_ldReg _ _ _ s
  case ld_H_A => exact effect_ldReg _ _ _ s
  case ld_L_B => exact effect_ldReg _ _ _ s
  case ld_L_C => exact effect_ldReg _ _ _ s
  case ld_L_D => exact effect_ldReg _ _ _ s
  case ld_L_E => exact effect_ldReg _ _ _ s
  case ld_L_H => exact effect_ldReg _ _ _ s
  case ld_L_L => exact effect_ldReg _ _ _ s
  case ld_L_atHL => exact effect_ldReg _ _ _ s
  case ld_L_A => exact effect_ldReg _ _ _ s
  case ld_atHL_B => exact effect_ldReg _ _ _ s
  case ld_atHL_C => exact effect_ldReg _ _ _ s
  case ld_atHL_D => exact effect_ldReg _ _ _ s
  case ld_atHL_E => exact effect_ldReg _ _ _ s
  case ld_atHL_H => exact effect_ldReg _ _ _ s
  case ld_atHL_L => exact effect_ldReg _ _ _ s
  case halt => exact effect_cpu (n := 0) (.same rfl rfl rfl)
  case ld_atHL_A => exact effect_ldReg _ _ _ s
  case ld_A_B => exact effect_ldReg _ _ _ s
  case ld_A_C => exact effect_ldReg _ _ _ s
  case ld_A_D => exact effect_ldReg _ _ _ s
  case ld_A_E => exact effect_ldReg _ _ _ s
  case ld_A_H => exact effect_ldReg _ _ _ s
  case ld_A_L => exact effect_ldReg _ _ _ s
  case ld_A_atHL => exact effect_ldReg _ _ _ s
  case ld_A_A => exact effect_ldReg _ _ _ s
  case add_A_B => exact effect_aluReg _ _ _ s
  case add_A_C => exact effect_aluReg _ _ _ s
  case add_A_D => exact effect_aluReg _ _ _ s
  case add_A_E => exact effect_aluReg _ _ _ s
  case add_A_H => exact effect_aluReg _ _ _ s
  case add_A_L => exact effect_aluReg _ _ _ s
  case add_A_atHL => exact effect_aluReg _ _ _ s
  case add_A_A => exact effect_aluReg _ _ _ s
  case adc_A_B => exact effect_aluReg _ _ _ s
  case adc_A_C => exact effect_aluReg _ _ _ s
  case adc_A_D => exact effect_aluReg _ _ _ s
  case adc_A_E => exact effect_aluReg _ _ _ s
  case adc_A_H => exact effect_aluReg _ _ _ s
  case adc_A_L => exact effect_aluReg _ _ _ s
  case adc_A_atHL => exact effect_aluReg _ _ _ s
  case adc_A_A => exact effect_aluReg _ _ _ s
  case sub_A_B => exact effect_aluReg _ _ _ s
  case sub_A_C => exact effect_aluReg _ _ _ s
  case sub_A_D => exact effect_aluReg _ _ _ s
  case sub_A_E => exact effect_aluReg _ _ _ s
  case sub_A_H => exact effect_aluReg _ _ _ s
  case sub_A_L => exact effect_aluReg _ _ _ s
  case sub_A_atHL => exact effect_aluReg _ _ _ s
  case sub_A_A => exact effect_aluReg _ _ _ s
  case sbc_A_B => exact effect_aluReg _ _ _ s
  case sbc_A_C => exact effect_aluReg _ _ _ s
  case sbc_A_D => exact effect_aluReg _ _ _ s
  case sbc_A_E => exact effect_aluReg _ _ _ s
  case sbc_A_H => exact effect_aluReg _ _ _ s
  case sbc_A_L => exact effect_aluReg _ _ _ s
  case sbc_A_atHL => exact effect_aluReg _ _ _ s
  case sbc_A_A => exact effect_aluReg _ _ _ s
  case and_A_B => exact effect_aluReg _ _ _ s
  case and_A_C => exact effect_aluReg _ _ _ s
  case and_A_D => exact effect_aluReg _ _ _ s
  case and_A_E => exact effect_aluReg _ _ _ s
  case and_A_H => exact effect_aluReg _ _ _ s
  case and_A_L => exact effect_aluReg _ _ _ s
  case and_A_atHL => exact effect_aluReg _ _ _ s
  case and_A_A => exact effect_aluReg _ _ _ s
  case xor_A_B => exact effect_aluReg _ _ _ s
  case xor_A_C => exact effect_aluReg _ _ _ s
  case xor_A_D => exact effect_aluReg _ _ _ s
  case xor_A_E => exact effect_aluReg _ _ _ s
  case xor_A_H => exact effect_aluReg _ _ _ s
  case xor_A_L => exact effect_aluReg _ _ _ s
  case xor_A_atHL => exact effect_aluReg _ _ _ s
  case xor_A_A => exact effect_aluReg _ _ _ s
  case or_A_B => exact effect_aluReg _ _ _ s
  case or_A_C => exact effect_aluReg _ _ _ s
  case or_A_D => exact effect_aluReg _ _ _ s
  case or_A_E => exact effect_aluReg _ _ _ s
  case or_A_H => exact effect_aluReg _ _ _ s
  case or_A_L => exact effect_aluReg _ _ _ s
  case or_A_atHL => exact effect_aluReg _ _ _ s
  case or_A_A => exact effect_aluReg _ _ _ s
  case cp_A_B => exact effect_aluReg _ _ _ s
  case cp_A_C => exact effect_aluReg _ _ _ s
  case cp_A_D => exact effect_aluReg _ _ _ s
  case cp_A_E => exact effect_aluReg _ _ _ s
  case cp_A_H => exact effect_aluReg _ _ _ s
  case cp_A_L => exact effect_aluReg _ _ _ s
  case cp_A_atHL => exact effect_aluReg _ _ _ s
  case cp_A_A => exact effect_aluReg _ _ _ s
  case ret_NZ => exact effect_retIf _ _ s
  case pop_BC => exact effect_popPair _ _ s
  case jp_NZ_a16 => exact effect_jpIf _ _ _ s
  case jp_a16 => exact effect_jump _ _ 3 s
  case call_NZ_a16 => exact effect_callIf _ _ _ s
  case push_BC => exact effect_pushPair _ _ s
  case add_A_n8 => exact effect_aluImm _ _ _ s
  case rst_00 => exact effect_call _ _ 3 s
  case ret_Z => exact effect_retIf _ _ s
  case ret => exact effect_ret _ 3 s
  case jp_Z_a16 => exact effect_jpIf _ _ _ s
  case prefixCb => exact effect_cbOp _ _ s
  case call_Z_a16 => exact effect_callIf _ _ _ s
  case call_a16 => exact effect_call _ _ 5 s
  case adc_A_n8 => exact effect_aluImm _ _ _ s
  case rst_08 => exact effect_call _ _ 3 s
  case ret_NC => exact effect_retIf _ _ s
  case pop_DE => exact effect_popPair _ _ s
  case jp_NC_a16 => exact effect_jpIf _ _ _ s
  case illegal_D3 => exact Or.inr ⟨_, rfl⟩
  case call_NC_a16 => exact effect_callIf _ _ _ s
  case push_DE => exact effect_pushPair _ _ s
  case sub_A_n8 => exact effect_aluImm _ _ _ s
  case rst_10 => exact effect_call _ _ 3 s
  case ret_C => exact effect_retIf _ _ s
  case reti => exact effect_cpu (n := 3) (g := fun c => { c with sp := c.sp + 2#16, pc := s.popValue, ime := true }) ⟨id, fun _ => .inr rfl, rfl⟩
  case jp_C_a16 => exact effect_jpIf _ _ _ s
  case illegal_DB => exact Or.inr ⟨_, rfl⟩
  case call_C_a16 => exact effect_callIf _ _ _ s
  case illegal_DD => exact Or.inr ⟨_, rfl⟩
  case sbc_A_n8 => exact effect_aluImm _ _ _ s
  case rst_18 => exact effect_call _ _ 3 s
  case ldh_atA8_A => exact effect_storeA _ _ 2 s
  case pop_HL => exact effect_popPair _ _ s
  case ldh_atC_A => exact effect_storeA _ _ 1 s
  case illegal_E3 => exact Or.inr ⟨_, rfl⟩
  case illegal_E4 => exact Or.inr ⟨_, rfl⟩
  case push_HL => exact effect_pushPair _ _ s
  case and_A_n8 => exact effect_aluImm _ _ _ s
  case rst_20 => exact effect_call _ _ 3 s
  case add_SP_e8 => exact effect_addSP _ _ s
  case jp_HL => exact effect_jump _ _ 0 s
  case ld_atA16_A => exact effect_storeA _ _ 3 s
  case illegal_EB => exact Or.inr ⟨_, rfl⟩
  case illegal_EC => exact Or.inr ⟨_, rfl⟩
  case illegal_ED => exact Or.inr ⟨_, rfl⟩
  case xor_A_n8 => exact effect_aluImm _ _ _ s
  case rst_28 => exact effect_call _ _ 3 s
  case ldh_A_atA8 => exact effect_loadA _ _ 2 s
  case pop_AF => exact effect_popPair _ _ s
  case ldh_A_atC => exact effect_loadA _ _ 1 s
  case di => exact effect_cpu (n := 0) ⟨id, fun h => absurd h Bool.false_ne_true, rfl⟩
  case illegal_F4 => exact Or.inr ⟨_, rfl⟩
  case push_AF => exact effect_pushPair _ _ s
  case or_A_n8 => exact effect_aluImm _ _ _ s
  case rst_30 => exact effect_call _ _ 3 s
  case ld_HL_SP_e8 => exact effect_ldHLSP _ _ s
  case ld_SP_HL => exact effect_ldSPHL _ s
  case ld_A_atA16 => exact effect_loadA _ _ 3 s
  case ei => exact effect_cpu (n := 0) (.same rfl rfl rfl)
  case illegal_FC => exact Or.inr ⟨_, rfl⟩
  case illegal_FD => exact Or.inr ⟨_, rfl⟩
  case cp_A_n8 => exact effect_aluImm _ _ _ s
  case rst_38 => exact effect_call _ _ 3 s
  case rlc_B => exact effect_rotReg _ _ _ s
  case rlc_C => exact effect_rotReg _ _ _ s
  case rlc_D => exact effect_rotReg _ _ _ s
  case rlc_E => exact effect_rotReg _ _ _ s
  case rlc_H => exact effect_rotReg _ _ _ s
  case rlc_L => exact effect_rotReg _ _ _ s
  case rlc_atHL => exact effect_rotReg _ _ _ s
  case rlc_A => exact effect_rotReg _ _ _ s
  case rrc_B => exact effect_rotReg _ _ _ s
  case rrc_C => exact effect_rotReg _ _ _ s
  case rrc_D => exact effect_rotReg _ _ _ s
  case rrc_E => exact effect_rotReg _ _ _ s
  case rrc_H => exact effect_rotReg _ _ _ s
  case rrc_L => exact effect_rotReg _ _ _ s
  case rrc_atHL => exact effect_rotReg _ _ _ s
  case rrc_A => exact effect_rotReg _ _ _ s
  case rl_B => exact effect_rotReg _ _ _ s
  case rl_C => exact effect_rotReg _ _ _ s
  case rl_D => exact effect_rotReg _ _ _ s
  case rl_E => exact effect_rotReg _ _ _ s
  case rl_H => exact effect_rotReg _ _ _ s
  case rl_L => exact effect_rotReg _ _ _ s
  case rl_atHL => exact effect_rotReg _ _ _ s
  case rl_A => exact effect_rotReg _ _ _ s
  case rr_B => exact effect_rotReg _ _ _ s
  case rr_C => exact effect_rotReg _ _ _ s
  case rr_D => exact effect_rotReg _ _ _ s
  case rr_E => exact effect_rotReg _ _ _ s
  case rr_H => exact effect_rotReg _ _ _ s
  case rr_L => exact effect_rotReg _ _ _ s
  case rr_atHL => exact effect_rotReg _ _ _ s
  case rr_A => exact effect_rotReg _ _ _ s
  case sla_B => exact effect_rotReg _ _ _ s
  case sla_C => exact effect_rotReg _ _ _ s
  case sla_D => exact effect_rotReg _ _ _ s
  case sla_E => exact effect_rotReg _ _ _ s
  case sla_H => exact effect_rotReg _ _ _ s
  case sla_L => exact effect_rotReg _ _ _ s
  case sla_atHL => exact effect_rotReg _ _ _ s
  case sla_A => exact effect_rotReg _ _ _ s
  case sra_B => exact effect_rotReg _ _ _ s
  case sra_C => exact effect_rotReg _ _ _ s
  case sra_D => exact effect_rotReg _ _ _ s
  case sra_E => exact effect_rotReg _ _ _ s
  case sra_H => exact effect_rotReg _ _ _ s
  case sra_L => exact effect_rotReg _ _ _ s
  case sra_atHL => exact effect_rotReg _ _ _ s
  case sra_A => exact effect_rotReg _ _ _ s
  case swap_B => exact effect_rotReg _ _ _ s
  case swap_C => exact effect_rotReg _ _ _ s
  case swap_D => exact effect_rotReg _ _ _ s
  case swap_E => exact effect_rotReg _ _ _ s
  case swap_H => exact effect_rotReg _ _ _ s
  case swap_L => exact effect_rotReg _ _ _ s
  case swap_atHL => exact effect_rotReg _ _ _ s
  case swap_A => exact effect_rotReg _ _ _ s
  case srl_B => exact effect_rotReg _ _ _ s
  case srl_C => exact effect_rotReg _ _ _ s
  case srl_D => exact effect_rotReg _ _ _ s
  case srl_E => exact effect_rotReg _ _ _ s
  case srl_H => exact effect_rotReg _ _ _ s
  case srl_L => exact effect_rotReg _ _ _ s
  case srl_atHL => exact effect_rotReg _ _ _ s
  case srl_A => exact effect_rotReg _ _ _ s
  case bit_0_B => exact effect_bitReg _ _ _ s
  case bit_0_C => exact effect_bitReg _ _ _ s
  case bit_0_D => exact effect_bitReg _ _ _ s
  case bit_0_E => exact effect_bitReg _ _ _ s
  case bit_0_H => exact effect_bitReg _ _ _ s
  case bit_0_L => exact effect_bitReg _ _ _ s
  case bit_0_atHL => exact effect_bitReg _ _ _ s
  case bit_0_A => exact effect_bitReg _ _ _ s
  case bit_1_B => exact effect_bitReg _ _ _ s
  case bit_1_C => exact effect_bitReg _ _ _ s
  case bit_1_D => exact effect_bitReg _ _ _ s
  case bit_1_E => exact effect_bitReg _ _ _ s
  case bit_1_H => exact effect_bitReg _ _ _ s
  case bit_1_L => exact effect_bitReg _ _ _ s
  case bit_1_atHL => exact effect_bitReg _ _ _ s
  case bit_1_A => exact effect_bitReg _ _ _ s
  case bit_2_B => exact effect_bitReg _ _ _ s
  case bit_2_C => exact effect_bitReg _ _ _ s
  case bit_2_D => exact effect_bitReg _ _ _ s
  case bit_2_E => exact effect_bitReg _ _ _ s
  case bit_2_H => exact effect_bitReg _ _ _ s
  case bit_2_L => exact effect_bitReg _ _ _ s
  case bit_2_atHL => exact effect_bitReg _ _ _ s
  case bit_2_A => exact effect_bitReg _ _ _ s
  case bit_3_B => exact effect_bitReg _ _ _ s
  case bit_3_C => exact effect_bitReg _ _ _ s
  case bit_3_D => exact effect_bitReg _ _ _ s
  case bit_3_E => exact effect_bitReg _ _ _ s
  case bit_3_H => exact effect_bitReg _ _ _ s
  case bit_3_L => exact effect_bitReg _ _ _ s
  case bit_3_atHL => exact effect_bitReg _ _ _ s
  case bit_3_A => exact effect_bitReg _ _ _ s
  case bit_4_B => exact effect_bitReg _ _ _ s
  case bit_4_C => exact effect_bitReg _ _ _ s
  case bit_4_D => exact effect_bitReg _ _ _ s
  case bit_4_E => exact effect_bitReg _ _ _ s
  case bit_4_H => exact effect_bitReg _ _ _ s
  case bit_4_L => exact effect_bitReg _ _ _ s
  case bit_4_atHL => exact effect_bitReg _ _ _ s
  case bit_4_A => exact effect_bitReg _ _ _ s
  case bit_5_B => exact effect_bitReg _ _ _ s
  case bit_5_C => exact effect_bitReg _ _ _ s
  case bit_5_D => exact effect_bitReg _ _ _ s
  case bit_5_E => exact effect_bitReg _ _ _ s
  case bit_5_H => exact effect_bitReg _ _ _ s
  case bit_5_L => exact effect_bitReg _ _ _ s
  case bit_5_atHL => exact effect_bitReg _ _ _ s
  case bit_5_A => exact effect_bitReg _ _ _ s
  case bit_6_B => exact effect_bitReg _ _ _ s
  case bit_6_C => exact effect_bitReg _ _ _ s
  case bit_6_D => exact effect_bitReg _ _ _ s
  case bit_6_E => exact effect_bitReg _ _ _ s
  case bit_6_H => exact effect_bitReg _ _ _ s
  case bit_6_L => exact effect_bitReg _ _ _ s
  case bit_6_atHL => exact effect_bitReg _ _ _ s
  case bit_6_A => exact effect_bitReg _ _ _ s
  case bit_7_B => exact effect_bitReg _ _ _ s
  case bit_7_C => exact effect_bitReg _ _ _ s
  case bit_7_D => exact effect_bitReg _ _ _ s
  case bit_7_E => exact effect_bitReg _ _ _ s
  case bit_7_H => exact effect_bitReg _ _ _ s
  case bit_7_L => exact effect_bitReg _ _ _ s
  case bit_7_atHL => exact effect_bitReg _ _ _ s
  case bit_7_A => exact effect_bitReg _ _ _ s
  case res_0_B => exact effect_resReg _ _ _ s
  case res_0_C => exact effect_resReg _ _ _ s
  case res_0_D => exact effect_resReg _ _ _ s
  case res_0_E => exact effect_resReg _ _ _ s
  case res_0_H => exact effect_resReg _ _ _ s
  case res_0_L => exact effect_resReg _ _ _ s
  case res_0_atHL => exact effect_resReg _ _ _ s
  case res_0_A => exact effect_resReg _ _ _ s
  case res_1_B => exact effect_resReg _ _ _ s
  case res_1_C => exact effect_resReg _ _ _ s
  case res_1_D => exact effect_resReg _ _ _ s
  case res_1_E => exact effect_resReg _ _ _ s
  case res_1_H => exact effect_resReg _ _ _ s
  case res_1_L => exact effect_resReg _ _ _ s
  case res_1_atHL => exact effect_resReg _ _ _ s
  case res_1_A => exact effect_resReg _ _ _ s
  case res_2_B => exact effect_resReg _ _ _ s
  case res_2_C => exact effect_resReg _ _ _ s
  case res_2_D => exact effect_resReg _ _ _ s
  case res_2_E => exact effect_resReg _ _ _ s
  case res_2_H => exact effect_resReg _ _ _ s
  case res_2_L => exact effect_resReg _ _ _ s
  case res_2_atHL => exact effect_resReg _ _ _ s
  case res_2_A => exact effect_resReg _ _ _ s
  case res_3_B => exact effect_resReg _ _ _ s
  case res_3_C => exact effect_resReg _ _ _ s
  case res_3_D => exact effect_resReg _ _ _ s
  case res_3_E => exact effect_resReg _ _ _ s
  case res_3_H => exact effect_resReg _ _ _ s
  case res_3_L => exact effect_resReg _ _ _ s
  case res_3_atHL => exact effect_resReg _ _ _ s
  case res_3_A => exact effect_resReg _ _ _ s
  case res_4_B => exact effect_resReg _ _ _ s
  case res_4_C => exact effect_resReg _ _ _ s
  case res_4_D => exact effect_resReg _ _ _ s
  case res_4_E => exact effect_resReg _ _ _ s
  case res_4_H => exact effect_resReg _ _ _ s
  case res_4_L => exact effect_resReg _ _ _ s
  case res_4_atHL => exact effect_resReg _ _ _ s
  case res_4_A => exact effect_resReg _ _ _ s
  case res_5_B => exact effect_resReg _ _ _ s
  case res_5_C => exact effect_resReg _ _ _ s
  case res_5_D => exact effect_resReg _ _ _ s
  case res_5_E => exact effect_resReg _ _ _ s
  case res_5_H => exact effect_resReg _ _ _ s
  case res_5_L => exact effect_resReg _ _ _ s
  case res_5_atHL => exact effect_resReg _ _ _ s
  case res_5_A => exact effect_resReg _ _ _ s
  case res_6_B => exact effect_resReg _ _ _ s
  case res_6_C => exact effect_resReg _ _ _ s
  case res_6_D => exact effect_resReg _ _ _ s
  case res_6_E => exact effect_resReg _ _ _ s
  case res_6_H => exact effect_resReg _ _ _ s
  case res_6_L => exact effect_resReg _ _ _ s
  case res_6_atHL => exact effect_resReg _ _ _ s
  case res_6_A => exact effect_resReg _ _ _ s
  case res_7_B => exact effect_resReg _ _ _ s
  case res_7_C => exact effect_resReg _ _ _ s
  case res_7_D => exact effect_resReg _ _ _ s
  case res_7_E => exact effect_resReg _ _ _ s
  case res_7_H => exact effect_resReg _ _ _ s
  case res_7_L => exact effect_resReg _ _ _ s
  case res_7_atHL => exact effect_resReg _ _ _ s
  case res_7_A => exact effect_resReg _ _ _ s
  case set_0_B => exact effect_setReg _ _ _ s
  case set_0_C => exact effect_setReg _ _ _ s
  case set_0_D => exact effect_setReg _ _ _ s
  case set_0_E => exact effect_setReg _ _ _ s
  case set_0_H => exact effect_setReg _ _ _ s
  case set_0_L => exact effect_setReg _ _ _ s
  case set_0_atHL => exact effect_setReg _ _ _ s
  case set_0_A => exact effect_setReg _ _ _ s
  case set_1_B => exact effect_setReg _ _ _ s
  case set_1_C => exact effect_setReg _ _ _ s
  case set_1_D => exact effect_setReg _ _ _ s
  case set_1_E => exact effect_setReg _ _ _ s
  case set_1_H => exact effect_setReg _ _ _ s
  case set_1_L => exact effect_setReg _ _ _ s
  case set_1_atHL => exact effect_setReg _ _ _ s
  case set_1_A => exact effect_setReg _ _ _ s
  case set_2_B => exact effect_setReg _ _ _ s
  case set_2_C => exact effect_setReg _ _ _ s
  case set_2_D => exact effect_setReg _ _ _ s
  case set_2_E => exact effect_setReg _ _ _ s
  case set_2_H => exact effect_setReg _ _ _ s
  case set_2_L => exact effect_setReg _ _ _ s
  case set_2_atHL => exact effect_setReg _ _ _ s
  case set_2_A => exact effect_setReg _ _ _ s
  case set_3_B => exact effect_setReg _ _ _ s
  case set_3_C => exact effect_setReg _ _ _ s
  case set_3_D => exact effect_setReg _ _ _ s
  case set_3_E => exact effect_setReg _ _ _ s
  case set_3_H => exact effect_setReg _ _ _ s
  case set_3_L => exact effect_setReg _ _ _ s
  case set_3_atHL => exact effect_setReg _ _ _ s
  case set_3_A => exact effect_setReg _ _ _ s
  case set_4_B => exact effect_setReg _ _ _ s
  case set_4_C => exact effect_setReg _ _ _ s
  case set_4_D => exact effect_setReg _ _ _ s
  case set_4_E => exact effect_setReg _ _ _ s
  case set_4_H => exact effect_setReg _ _ _ s
  case set_4_L => exact effect_setReg _ _ _ s
  case set_4_atHL => exact effect_setReg _ _ _ s
  case set_4_A => exact effect_setReg _ _ _ s
  case set_5_B => exact effect_setReg _ _ _ s
  case set_5_C => exact effect_setReg _ _ _ s
  case set_5_D => exact effect_setReg _ _ _ s
  case set_5_E => exact effect_setReg _ _ _ s
  case set_5_H => exact effect_setReg _ _ _ s
  case set_5_L => exact effect_setReg _ _ _ s
  case set_5_atHL => exact effect_setReg _ _ _ s
  case set_5_A => exact effect_setReg _ _ _ s
  case set_6_B => exact effect_setReg _ _ _ s
  case set_6_C => exact effect_setReg _ _ _ s
  case set_6_D => exact effect_setReg _ _ _ s
  case set_6_E => exact effect_setReg _ _ _ s
  case set_6_H => exact effect_setReg _ _ _ s
  case set_6_L => exact effect_setReg _ _ _ s
  case set_6_atHL => exact effect_setReg _ _ _ s
  case set_6_A => exact effect_setReg _ _ _ s
  case set_7_B => exact effect_setReg _ _ _ s
  case set_7_C => exact effect_setReg _ _ _ s
  case set_7_D => exact effect_setReg _ _ _ s
  case set_7_E => exact effect_setReg _ _ _ s
  case set_7_H => exact effect_setReg _ _ _ s
  case set_7_L => exact effect_setReg _ _ _ s
  case set_7_atHL => exact effect_setReg _ _ _ s
  case set_7_A => exact effect_setReg _ _ _ s

end Sys2Proof.Machine
end

