-- ==== Sys2Proof/Laws/Flags.lean ====
section
/-! SUPPORT. What F says after each computation of Machine/Flags.lean, in the terms of the statements (`FlagsAre`), and the
results as numbers. -/

namespace Sys2Proof.Machine

@[simp] theorem zf_mkF (z n h c : Bool) : zf (mkF z n h c) = z := by cases z <;> cases n <;> cases h <;> cases c <;> rfl

@[simp] theorem nf_mkF (z n h c : Bool) : nf (mkF z n h c) = n := by cases z <;> cases n <;> cases h <;> cases c <;> rfl

@[simp] theorem hf_mkF (z n h c : Bool) : hf (mkF z n h c) = h := by cases z <;> cases n <;> cases h <;> cases c <;> rfl

@[simp] theorem cf_mkF (z n h c : Bool) : cf (mkF z n h c) = c := by cases z <;> cases n <;> cases h <;> cases c <;> rfl

/-- Flags built from four Booleans. -/
theorem flagsAre_mkF {z n h c : Bool} {pz pn ph pc : Prop} (hz : z = true ↔ pz) (hn : n = true ↔ pn) (hh : h = true ↔ ph)
    (hc : c = true ↔ pc) : FlagsAre (mkF z n h c) pz pn ph pc :=
  ⟨by rw [zf_mkF]; exact hz, by rw [nf_mkF]; exact hn, by rw [hf_mkF]; exact hh, by rw [cf_mkF]; exact hc, mkF_low z n h c⟩

/-- The sum of R251 and R252. -/
theorem add8_spec (a b : Byte) (c : Bool) :
    (add8 a b c).value.toNat = (a.toNat + b.toNat + c.toNat) % 256 ∧
    FlagsAre (add8 a b c).flags ((add8 a b c).value = 0#8) False (a.toNat % 16 + b.toNat % 16 + c.toNat > 15)
      (a.toNat + b.toNat + c.toNat > 255) :=
  ⟨BitVec.toNat_ofNat _ _, flagsAre_mkF beq_iff_eq (by simp) decide_eq_true_iff decide_eq_true_iff⟩

/-- The difference of R253 and R254. -/
theorem sub8_spec (a b : Byte) (c : Bool) :
    (sub8 a b c).value.toNat = (a.toNat + 512 - b.toNat - c.toNat) % 256 ∧
    FlagsAre (sub8 a b c).flags ((sub8 a b c).value = 0#8) True (a.toNat % 16 < b.toNat % 16 + c.toNat)
      (a.toNat < b.toNat + c.toNat) := by
  refine ⟨?_, flagsAre_mkF beq_iff_eq (by simp) decide_eq_true_iff decide_eq_true_iff⟩
  have ha := a.isLt
  have hb := b.isLt
  have hc := Bool.toNat_le c
  simp only [sub8, BitVec.toNat_ofInt]
  omega

/-- `INC` (R260). -/
theorem inc8_spec (v f : Byte) :
    (inc8 v f).value = v + 1#8 ∧
    FlagsAre (inc8 v f).flags (v + 1#8 = 0#8) False (v.toNat % 16 = 15) (cf f = true) :=
  ⟨rfl, flagsAre_mkF beq_iff_eq (by simp) decide_eq_true_iff Iff.rfl⟩

/-- `DEC` (R262). -/
theorem dec8_spec (v f : Byte) :
    (dec8 v f).value = v - 1#8 ∧
    FlagsAre (dec8 v f).flags (v - 1#8 = 0#8) True (v.toNat % 16 = 0) (cf f = true) :=
  ⟨rfl, flagsAre_mkF beq_iff_eq (by simp) decide_eq_true_iff Iff.rfl⟩

/-- `ADD HL,rr` (R290). -/
theorem addHL16_spec (hl v : Word) (f : Byte) :
    (addHL16 hl v f).value.toNat = (hl.toNat + v.toNat) % 65536 ∧
    FlagsAre (addHL16 hl v f).flags (zf f = true) False (hl.toNat % 4096 + v.toNat % 4096 > 4095)
      (hl.toNat + v.toNat > 65535) :=
  ⟨BitVec.toNat_ofNat _ _, flagsAre_mkF Iff.rfl (by simp) decide_eq_true_iff decide_eq_true_iff⟩

/-- `sext_8` (R10): a displaced word, as a number. -/
theorem toNat_displaced (w : Word) (u : Byte) :
    ((w + u.signExtend 16).toNat : Int) = ((w.toNat : Int) + u.toInt) % 65536 := by
  have h : w + u.signExtend 16 = BitVec.ofInt 16 ((w.toNat : Int) + u.toInt) := by
    rw [BitVec.ofInt_add, BitVec.signExtend]
    simp
  rw [h, BitVec.toNat_ofInt]
  omega

/-- `SP + e8` (R293, R294). -/
theorem addSigned16_spec (sp : Word) (u : Byte) :
    ((addSigned16 sp u).value.toNat : Int) = ((sp.toNat : Int) + u.toInt) % 65536 ∧
    FlagsAre (addSigned16 sp u).flags False False (sp.toNat % 16 + u.toNat % 16 > 15) (sp.toNat % 256 + u.toNat > 255) :=
  ⟨toNat_displaced sp u, flagsAre_mkF (by simp) (by simp) decide_eq_true_iff decide_eq_true_iff⟩

/-- The rotates and shifts (R306 to R313), over the numbers. -/
theorem shift8_spec (op : RotOp) (v : Byte) (c : Bool) :
    RotatesTo op v.toNat c.toNat (shift8 op v c).1.toNat (shift8 op v c).2.toNat := by
  cases op <;> cases c <;> revert v <;> unfold RotatesTo <;> decide

end Sys2Proof.Machine
end

