-- ==== Sys2Proof/Laws/Ppu.lean ====
section
/-! SUPPORT. What the drawing operations of the PPU can do to a column: a tile's pixel, a sprite's pixel, a line's sprites
one after another; and what an H-Blank and a completed line do to everything that is not a pixel. -/

namespace Sys2Proof.Machine

/-! ### Pixels -/

/-- A colour index is its two bits (R430, R440). -/
theorem patternIdx_toNat (lo hi : Byte) (col : Nat) :
    (patternIdx lo hi col).toNat = 2 * (hi.getLsbD (7 - col)).toNat + (lo.getLsbD (7 - col)).toNat := by
  unfold patternIdx
  cases hi.getLsbD (7 - col) <;> cases lo.getLsbD (7 - col) <;> rfl

theorem dmgShade_eq (palette : Byte) (idx : BitVec 2) :
    ∃ v : BitVec 2, dmgShade palette idx = .shade v ∧ v.toNat = palette.toNat / 4 ^ idx.toNat % 4 := by
  refine ⟨_, rfl, ?_⟩
  rw [BitVec.extractLsb'_toNat, Nat.shiftRight_eq_div_pow, Nat.pow_mul]

/-- Five bits to eight (R450). -/
theorem expand5_toNat : ∀ x : BitVec 5, (expand5 x).toNat = x.toNat * 8 + x.toNat / 4 := by decide

/-- The colour a palette memory gives (R43, R450). -/
theorem colour_eq (port : PalettePort) (p : BitVec 3) (idx : BitVec 2) :
    ∃ r g b : Byte, port.colour p idx = .rgb r g b ∧
      (let w := (port.cells.read (8 * p.toNat + 2 * idx.toNat)).toNat +
         256 * (port.cells.read (8 * p.toNat + 2 * idx.toNat + 1)).toNat
       r.toNat = w % 32 * 8 + w % 32 / 4 ∧ g.toNat = w / 32 % 32 * 8 + w / 32 % 32 / 4 ∧
       b.toNat = w / 1024 % 32 * 8 + w / 1024 % 32 / 4) := by
  refine ⟨_, _, _, rfl, ?_⟩
  dsimp only
  have hw : ∀ hi lo : Byte, (Word.ofBytes hi lo).toNat = lo.toNat + 256 * hi.toNat := by
    intro hi lo
    unfold Word.ofBytes
    rw [BitVec.toNat_append, ← Nat.shiftLeft_add_eq_or_of_lt (by have := lo.isLt; omega), Nat.shiftLeft_eq]
    omega
  rw [expand5_toNat, expand5_toNat, expand5_toNat, BitVec.extractLsb'_toNat, BitVec.extractLsb'_toNat,
    BitVec.extractLsb'_toNat, hw, Nat.shiftRight_eq_div_pow, Nat.shiftRight_eq_div_pow, Nat.shiftRight_eq_div_pow]
  exact ⟨by norm_num, by norm_num, by norm_num⟩

/-- The order of the two highest tags (R448). -/
theorem Tag.rank_le_above (t : Tag) : t.rank ≤ Tag.spriteAbove.rank := by cases t <;> decide

theorem Tag.rank_le_behind {t : Tag} (h : t ≠ .spriteAbove) : t.rank ≤ Tag.spriteBehind.rank := by
  revert h
  cases t <;> decide

/-- `Put` where the tag is not lower (R448). -/
theorem put_eq {c : Column} {t : Tag} (h : c.tag.rank ≤ t.rank) (px : Pixel) :
    c.put t px = { c with pixel := px, tag := t } := if_pos h

namespace State

/-! ### Tiles -/

/-- The colours of the two layers (R432, R440). -/
theorem colourIs_bgColour (s : State) (idx : BitVec 2) (attrs : Byte) :
    ColourIs s.cart.cgbMode s.ppu.bgp s.ppu.bgPal (attrs.extractLsb' 0 3) idx (s.bgColour idx attrs) := by
  unfold bgColour
  constructor <;> intro h <;> rw [h]
  · exact dmgShade_eq _ _
  · exact colour_eq _ _ _

theorem colourIs_objColour (s : State) (idx : BitVec 2) (attrs : Byte) :
    ColourIs s.cart.cgbMode (if attrs.getLsbD 4 then s.ppu.obp1 else s.ppu.obp0) s.ppu.objPal (attrs.extractLsb' 0 3) idx
      (s.objColour idx attrs) := by
  unfold objColour
  constructor <;> intro h <;> rw [h]
  · exact dmgShade_eq _ _
  · exact colour_eq _ _ _

/-- The cell of a pattern's row: bank 1 under attribute bit 3, unsigned from 8000 or signed around 9000 (R430). -/
theorem patternCell_eq (s : State) (attrs tile : Byte) (row : Nat) :
    8192 * (attrs.getLsbD 3).toNat + s.patternCell tile row =
      (if attrs.getLsbD 3 then 8192 else 0) +
        (if s.ppu.lcdc.getLsbD 4 then 16 * (tile.toNat : Int) else 0x1000 + 16 * tile.toInt).toNat + 2 * row := by
  have e : ∀ b : Bool, 8192 * b.toNat = if b = true then 8192 else 0 := by decide
  unfold patternCell
  rw [e, Int.mul_comm]
  split <;> split <;> omega

/-- The bit of a pattern's column, under a horizontal flip or not. -/
theorem bit_flipped (flip : Bool) (i : Nat) (h : i < 8) : 7 - flipped flip 7 i = if flip then i else 7 - i := by
  unfold flipped
  split <;> omega

/-- `TilePixel` (R430). -/
theorem tileIs_tilePixel (s : State) (base mx my : Nat) :
    TileIs s base mx my (s.tilePixel base mx my).1 (s.tilePixel base mx my).2 where
  attrsAre := rfl
  idxIs := by
    unfold tilePixel
    dsimp only
    rw [patternIdx_toNat, patternCell_eq, bit_flipped _ _ (Nat.mod_lt _ (by decide))]
    rfl

/-- A background or window pixel over a column of no higher tag. -/
theorem drawTile_eq (s : State) (t : Tag) (base mx my : Nat) (c : Column) (h : c.tag.rank ≤ t.rank) :
    ∃ attrs, ColourIs s.cart.cgbMode s.ppu.bgp s.ppu.bgPal (attrs.extractLsb' 0 3) (s.drawTile t base mx my c).bgIdx
      (s.drawTile t base mx my c).pixel ∧ (s.drawTile t base mx my c).tag = t ∧
      TileIs s base mx my (s.drawTile t base mx my c).bgIdx attrs := by
  unfold drawTile
  dsimp only
  rw [put_eq h]
  exact ⟨_, colourIs_bgColour s _ _, rfl, tileIs_tilePixel s base mx my⟩

/-- A column without sprites (R429, R432, R434). -/
theorem tilesDrawn (s : State) (ly x : Nat) : TilesDrawn s ly x (s.renderColumn [] ly x) := by
  obtain ⟨c0, h0⟩ : ∃ c0 : Column, c0 = { pixel := blankPixel s.cart.cgbMode, tag := .clear, bgIdx := 0#2 } := ⟨_, rfl⟩
  have hr : s.renderColumn [] ly x =
      (let c1 := if s.cart.cgbMode || s.ppu.lcdc.getLsbD 0 then s.drawBackground ly x c0 else c0
       if (s.cart.cgbMode || s.ppu.lcdc.getLsbD 0) && s.ppu.lcdc.getLsbD 5 then s.drawWindow ly x c1 else c1) := by
    rw [h0]
    unfold renderColumn
    exact ite_self _
  rw [hr]
  dsimp only
  constructor
  · intro h1 h2
    rw [h0, h1, h2]
    rfl
  · intro h
    have hbg := drawTile_eq s .background (s.mapBase 3) ((x + s.ppu.scx.toNat) % 256) ((ly + s.ppu.scy.toNat) % 256) c0
      (by rw [h0]; exact Nat.zero_le _)
    rw [show (s.cart.cgbMode || s.ppu.lcdc.getLsbD 0) = true by simpa using h, Bool.true_and, if_pos rfl]
    have hw : (if s.ppu.lcdc.getLsbD 5 = true then s.drawWindow ly x (s.drawBackground ly x c0)
        else s.drawBackground ly x c0) =
        if s.ppu.lcdc.getLsbD 5 = true ∧ s.ppu.wy.toNat ≤ ly ∧ s.ppu.wx.toNat ≤ x + 7 then
          s.drawTile .window (s.mapBase 6) (x + 7 - s.ppu.wx.toNat) (ly - s.ppu.wy.toNat) (s.drawBackground ly x c0)
        else s.drawBackground ly x c0 := by
      unfold drawWindow
      rw [ite_and (s.ppu.lcdc.getLsbD 5 = true)]
    rw [hw]
    split
    · obtain ⟨-, -, ht, -⟩ := hbg
      exact drawTile_eq s .window (s.mapBase 6) _ _ (s.drawBackground ly x c0)
        (by unfold drawBackground; rw [ht]; decide)
    · exact hbg

/-! ### Sprites -/

/-- A sprite's colour index (R440). -/
theorem spriteIdxIs (s : State) {ly x : Nat} {o : Sprite} (hx : o.x.toNat ≤ x + 8) (hx' : x < o.x.toNat) :
    SpriteIdxIs s ly x o (s.spriteIdx ly x o) := by
  unfold SpriteIdxIs spriteIdx spriteHeight
  dsimp only
  rw [patternIdx_toNat]
  rw [bit_flipped _ _ (by omega)]
  unfold flipped
  have hh : ((if s.ppu.lcdc.getLsbD 2 = true then 16 else 8) = 16) = (s.ppu.lcdc.getLsbD 2 = true) := by
    cases s.ppu.lcdc.getLsbD 2 <;> decide
  have hv : (if s.cart.cgbMode = true then 8192 * (o.attrs.getLsbD 3).toNat else 0) =
      if s.cart.cgbMode = true ∧ o.attrs.getLsbD 3 = true then 8192 else 0 := by
    cases s.cart.cgbMode <;> cases o.attrs.getLsbD 3 <;> rfl
  simp only [hh, hv, Nat.mul_comm 2 (o.tile.toNat / 2)]

/-- The behind-background attribute (R440, R449). -/
theorem spriteBehind_iff (s : State) (o : Sprite) : s.spriteBehind o = true ↔ GoesBehind s o := by
  unfold spriteBehind GoesBehind
  cases o.attrs.getLsbD 7 <;> cases s.cart.cgbMode <;> cases s.ppu.lcdc.getLsbD 0 <;> decide

/-- Drawing one sprite (R440, R448). -/
theorem spriteDrawn (s : State) (ly x : Nat) (c : Column) (o : Sprite) :
    SpriteDrawn s x o (s.spriteIdx ly x o) c (s.drawSprite ly x c o) where
  away := by
    intro h
    unfold drawSprite
    dsimp only
    split
    · rename_i hx
      split
      · rfl
      · rename_i hi
        obtain ⟨hb, hc⟩ := (h.resolve_left fun h' => h' hx).resolve_left hi
        rw [if_pos ((spriteBehind_iff s o).2 hb), if_pos hc]
    · rfl
  above := by
    intro hx hx' hi hb
    refine ⟨_, colourIs_objColour s _ _, ?_⟩
    unfold drawSprite
    dsimp only
    rw [if_pos ⟨hx, hx'⟩, if_neg hi, if_neg fun h => hb ((spriteBehind_iff s o).1 h)]
    exact put_eq (Tag.rank_le_above _) _
  behind := by
    intro hx hx' hi hb hc
    have e : s.drawSprite ly x c o = c.put .spriteBehind (s.objColour (s.spriteIdx ly x o) o.attrs) := by
      unfold drawSprite
      dsimp only
      rw [if_pos ⟨hx, hx'⟩, if_neg hi, if_pos ((spriteBehind_iff s o).2 hb), if_neg fun h => h hc]
    rw [e]
    constructor
    · intro ht
      unfold Column.put
      rw [ht]
      rfl
    · intro ht
      refine ⟨_, colourIs_objColour s _ _, ?_⟩
      exact put_eq (Tag.rank_le_behind ht) _

/-- What drawing sprites one after another keeps of a column: the background index; the tag never falls, and falls behind the
background only where the index is 0 (R448). -/
structure Draws (c d : Column) : Prop where
  bgIdx  : d.bgIdx = c.bgIdx
  rank   : c.tag.rank ≤ d.tag.rank
  behind : d.tag = .spriteBehind → c.tag = .spriteBehind ∨ c.bgIdx = 0#2

theorem Draws.refl (c : Column) : Draws c c := ⟨rfl, le_refl _, .inl⟩

theorem Draws.tr {c d e : Column} (h : Draws c d) (k : Draws d e) : Draws c e :=
  ⟨k.bgIdx.trans h.bgIdx, h.rank.trans k.rank, fun t => (k.behind t).elim h.behind fun z => .inr (h.bgIdx ▸ z)⟩

theorem Draws.sprite (s : State) (ly x : Nat) (c : Column) (o : Sprite) : Draws c (s.drawSprite ly x c o) := by
  have h := spriteDrawn s ly x c o
  by_cases ha : ¬(o.x.toNat ≤ x + 8 ∧ x < o.x.toNat) ∨ s.spriteIdx ly x o = 0#2 ∨ (GoesBehind s o ∧ c.bgIdx ≠ 0#2)
  · rw [h.away ha]
    exact .refl c
  · rw [not_or, not_or, not_not, not_and_not_right] at ha
    obtain ⟨⟨hx, hx'⟩, hi, hb⟩ := ha
    by_cases hg : GoesBehind s o
    · obtain ⟨same, put⟩ := h.behind hx hx' hi hg (hb hg)
      by_cases ht : c.tag = .spriteAbove
      · rw [same ht]
        exact .refl c
      · obtain ⟨px, -, e⟩ := put ht
        rw [e]
        exact ⟨rfl, Tag.rank_le_behind ht, fun _ => .inr (hb hg)⟩
    · obtain ⟨px, -, e⟩ := h.above hx hx' hi hg
      rw [e]
      exact ⟨rfl, Tag.rank_le_above _, fun t => nomatch t⟩

theorem Draws.sprites (s : State) (ly x : Nat) (l : List Sprite) (c : Column) :
    Draws c (l.foldl (s.drawSprite ly x) c) := by
  induction l generalizing c with
  | nil => exact .refl c
  | cons o l ih => exact (Draws.sprite s ly x c o).tr (ih _)

/-- The test of R440 for a sprite on a line. -/
theorem onLine_iff (s : State) (ly : Nat) (o : Sprite) : s.onLine ly o = true ↔ OnLine s ly o := decide_eq_true_iff

/-- The sprites of a line lie on it (R440). -/
theorem mem_lineSprites {s : State} {ly : Nat} {o : Sprite} (h : o ∈ s.lineSprites ly) : OnLine s ly o :=
  (onLine_iff s ly o).1 (List.mem_filter.1 (List.mem_of_mem_take h)).2

/-- The first `k` numbers below `n` with a property are those with fewer than `k` such numbers before them. -/
theorem mem_take_filter_range (p : Nat → Bool) (k n i : Nat) :
    i ∈ ((List.range n).filter p).take k ↔ i < n ∧ p i = true ∧ (List.range i).countP p < k := by
  induction n with
  | zero => simp
  | succ n ih =>
    rw [List.range_succ, List.filter_append, List.take_append, List.mem_append, ih, ← List.countP_eq_length_filter]
    constructor
    · rintro (⟨a, b, c⟩ | h)
      · exact ⟨by omega, b, c⟩
      · have hm := List.mem_of_mem_take h
        have hk : 0 < k - (List.range n).countP p := by
          rcases Nat.eq_zero_or_pos (k - (List.range n).countP p) with e | e
          · rw [e] at h
            simp at h
          · exact e
        rw [List.mem_filter, List.mem_singleton] at hm
        obtain ⟨rfl, hp⟩ := hm
        exact ⟨by omega, hp, by omega⟩
    · rintro ⟨a, b, c⟩
      rcases Nat.lt_succ_iff_lt_or_eq.1 a with h | rfl
      · exact .inl ⟨h, b, c⟩
      · right
        rw [List.filter_cons_of_pos b, List.filter_nil, List.take_of_length_le (by simp; omega)]
        exact List.mem_singleton_self _

/-- The sprites of a line are the first ten OAM entries on it, in the order of OAM (R440). -/
theorem lineSprites_entries (s : State) (ly : Nat) :
    ∃ entries : List Nat, s.lineSprites ly = entries.map s.sprite ∧ entries.Pairwise (· < ·) ∧
      ∀ i, i ∈ entries ↔ i < 40 ∧ OnLine s ly (s.sprite i) ∧
        (List.range i).countP (fun j => decide (OnLine s ly (s.sprite j))) < 10 := by
  refine ⟨((List.range 40).filter fun i => decide (OnLine s ly (s.sprite i))).take 10, ?_, ?_, fun i => ?_⟩
  · rw [List.map_take]
    unfold lineSprites
    rw [List.filter_map]
    rfl
  · exact (List.pairwise_lt_range.filter _).sublist (List.take_sublist _ _)
  · rw [mem_take_filter_range, decide_eq_true_iff]

/-! ### H-Blank and a completed line -/

@[simp] theorem raiseIf_mem (s : State) (b : Bool) (k : Fin 5) : (s.raiseIf b k).mem = s.mem := by
  unfold raiseIf; split <;> rfl

@[simp] theorem raiseIf_hdma (s : State) (b : Bool) (k : Fin 5) : (s.raiseIf b k).hdma = s.hdma := by
  unfold raiseIf; split <;> rfl

@[simp] theorem raiseIf_cart (s : State) (b : Bool) (k : Fin 5) : (s.raiseIf b k).cart = s.cart := by
  unfold raiseIf; split <;> rfl

@[simp] theorem raiseIf_carryCycles (s : State) (b : Bool) (k : Fin 5) : (s.raiseIf b k).carryCycles = s.carryCycles := by
  unfold raiseIf; split <;> rfl

/-- An H-Blank runs a chunk exactly in CGB mode with a transfer armed (R422). -/
theorem hblankEvent_eq (s : State) :
    s.hblankEvent = if s.cart.cgbMode = true ∧ s.hdma.active = true
      then (s.raiseIf (s.ppu.statSel.getLsbD 0) 1).hblankChunk else s.raiseIf (s.ppu.statSel.getLsbD 0) 1 := by
  unfold hblankEvent
  simp

/-- A tick is the scanlines of what the accumulator then holds (R421). -/
theorem ppuTick_eq (s : State) (cyc : Nat) :
    s.ppuTick cyc = completeLines ((s.ppu.acc + cyc) / 456) { s with ppu := { s.ppu with acc := s.ppu.acc + cyc } } := rfl

/-- A tick that completes no scanline (R421). -/
theorem ppuTick_lt (s : State) {cyc : Nat} (h : s.ppu.acc + cyc < 456) :
    s.ppuTick cyc = { s with ppu := { s.ppu with acc := s.ppu.acc + cyc } } := by
  rw [ppuTick_eq, Nat.div_eq_of_lt h]
  rfl

/-- A tick that completes a scanline goes on with the cycles that are left (R421). -/
theorem ppuTick_ge (s : State) {cyc : Nat} (h : 456 ≤ s.ppu.acc + cyc) :
    s.ppuTick cyc = (completeLine { s with ppu := { s.ppu with acc := s.ppu.acc + cyc } }).ppuTick 0 := by
  obtain ⟨u, hu⟩ : ∃ u : State, u = { s with ppu := { s.ppu with acc := s.ppu.acc + cyc } } := ⟨_, rfl⟩
  have e : u.completeLine.ppu.acc = s.ppu.acc + cyc - 456 := by rw [(completeLine_line u).2, hu]; rfl
  have z : ∀ t : State, { t with ppu := { t.ppu with acc := t.ppu.acc + 0 } } = t := fun _ => rfl
  rw [ppuTick_eq s, ← hu, ppuTick_eq _ 0, z, Nat.add_zero, e, Nat.div_eq_sub_div (by decide) h, completeLines]

/-- Only the H-Blank of a completed line touches memory, the HDMA registers or the carried cycles (R421). -/
theorem completeLine_transfer (s : State) :
    let t := { s with ppu := { s.ppu with acc := s.ppu.acc - lineCycles } }
    let u := if s.ppu.ly.toNat < visibleLines then t.hblankEvent else t
    s.completeLine.mem = u.mem ∧ s.completeLine.hdma = u.hdma ∧ s.completeLine.carryCycles = u.carryCycles := by
  have hu (c : State) : c.updateStat.mem = c.mem ∧ c.updateStat.hdma = c.hdma ∧
      c.updateStat.carryCycles = c.carryCycles := by
    simp [updateStat]
  have hv (c : State) (p : Prop) [Decidable p] : (if p then c.enterVBlank else c).mem = c.mem ∧
      (if p then c.enterVBlank else c).hdma = c.hdma ∧ (if p then c.enterVBlank else c).carryCycles = c.carryCycles := by
    split
    · simp [enterVBlank]
    · exact ⟨rfl, rfl, rfl⟩
  have hr (c : State) (n : Nat) (p : Prop) [Decidable p] : (if p then c.renderScanline n else c).mem = c.mem ∧
      (if p then c.renderScanline n else c).hdma = c.hdma ∧
      (if p then c.renderScanline n else c).carryCycles = c.carryCycles := by
    split <;> exact ⟨rfl, rfl, rfl⟩
  unfold completeLine
  dsimp only
  rw [(hu _).1, (hu _).2.1, (hu _).2.2, (hv _ _).1, (hv _ _).2.1, (hv _ _).2.2, (hr _ _ _).1, (hr _ _ _).2.1, (hr _ _ _).2.2]
  exact ⟨rfl, rfl, rfl⟩

/-- What a line draws depends on memory, the cartridge, and the PPU's registers but LY and the accumulator (R429). -/
theorem renderScanline_congr (s : State) (irq : Irq) (hdma : Hdma) (carry : Nat) (ly : Byte) (acc k : Nat) :
    let t := ({ s with irq := irq, hdma := hdma, carryCycles := carry, ppu := { s.ppu with ly := ly, acc := acc } } :
      State).renderScanline k
    let r := s.renderScanline k
    t.ppu.raster = r.ppu.raster ∧ t.ppu.tag = r.ppu.tag ∧ t.ppu.bgIdx = r.ppu.bgIdx := ⟨rfl, rfl, rfl⟩

end State

end Sys2Proof.Machine
end

