-- ==== Sys2Proof/Laws/Step.lean ====
section
/-! SUPPORT. The parts of a step, each with everything it can do: the wake test, the CPU part, the lock-step, and the two
ways a step goes. -/

namespace Sys2Proof.Machine

theorem isDi_iff (i : Instr) : isDi i = true ↔ i = .di := by
  cases i <;> simp [isDi]

namespace State

/-- The wake test changes `halted` alone. -/
theorem wake_eq (s : State) : ∃ w, s.wake = { s with cpu := { s.cpu with halted := w } } := by
  unfold wake
  split
  · exact ⟨_, rfl⟩
  · exact ⟨s.cpu.halted, rfl⟩

theorem wake_of_awake {s : State} (h : s.cpu.halted = false) : s.wake = s := by
  unfold wake
  rw [h]
  rfl

/-- The ways a step can go: a halted machine waits, or the instruction at PC runs. -/
theorem step_cases {s t : State} (h : step s = .next t) :
    s.cpu.faulted = none ∧
    ((s.wake.cpu.halted = true ∧ t = (s.wake.report haltedCycles).lockstep) ∨
      (s.wake.cpu.halted = false ∧
        ∃ u, s.wake.runInstr s.wake.fetched s.wake.fetchedLength = .next u ∧ t = u.afterCpu)) := by
  unfold step at h
  split at h
  · exact absurd h (by simp)
  · rename_i h0
    refine ⟨h0, ?_⟩
    dsimp only [stepRunning, cpuStep] at h
    split at h <;> rename_i h1
    · refine .inl ⟨h1, ?_⟩
      simp only [mapNext, Host.Outcome.next.injEq] at h
      rw [← h]
      unfold afterCpu
      have hf : (s.wake.report haltedCycles).cpu.faulted = none := by
        obtain ⟨w, hw⟩ := wake_eq s
        rw [hw]
        exact h0
      rw [hf]
      rfl
    · refine .inr ⟨by simpa using h1, ?_⟩
      generalize runInstr _ _ _ = r at h
      cases r <;> simp only [mapNext, Host.Outcome.next.injEq, reduceCtorEq] at h
      exact ⟨_, rfl, h.symm⟩

/-- A step of a machine that is awake. -/
theorem step_awake {s : State} (h0 : s.cpu.faulted = none) (h : s.cpu.halted = false) :
    step s = mapNext afterCpu (s.runInstr s.fetched s.fetchedLength) := by
  unfold step
  rw [h0]
  dsimp only [stepRunning, cpuStep]
  rw [wake_of_awake h, if_neg (by simp [h])]

/-! ### The CPU part -/

/-- What the CPU part of a step keeps, and what it adds to the counts when it does not fault. -/
structure CpuPart (s u : State) : Prop where
  cart    : u.cart = s.cart
  config  : u.config = s.config
  memory  : s.MemoryOk → u.MemoryOk
  hdma    : s.HdmaOk → u.HdmaOk
  line    : SameLine s u
  flags   : s.FlagsOk → u.FlagsOk
  faulted : u.cpu.faulted.isSome = true → u.cpu.halted = false
  counts  : u.cpu.faulted = none →
    ∃ k m, u.carryCycles = s.carryCycles + hdmaChunkCycles * k ∧ u.cycles = 4 * (m + 1)

theorem runInstr_part {s u : State} {i : Instr} {n : Nat} (h : s.runInstr i n = .next u) (hf : s.cpu.faulted = none) :
    CpuPart s u := by
  unfold runInstr at h
  rcases exec_effect i (s.beginInstr n) with ⟨l, c, m, e, ok⟩ | ⟨op, e⟩ <;> rw [e] at h <;>
    simp only [mapNext, Host.Outcome.next.injEq] at h
  · have hfa : c.faulted = none := ok.faulted.trans hf
    obtain ⟨w1, w2⟩ := writes_core l (s.beginInstr n)
    have hu : ∃ c', u = { (s.beginInstr n).writes l with cpu := c', cycles := 4 * (m + 1) } ∧ c'.f = c.f ∧
        c'.faulted = none := by
      rw [← h]
      unfold endInstr
      dsimp only
      rw [hfa, if_neg (by simp)]
      split
      · exact ⟨_, rfl, rfl, hfa⟩
      · exact ⟨c, rfl, rfl, hfa⟩
    obtain ⟨c', rfl, hcf, hcn⟩ := hu
    constructor
    · exact w1.cart
    · exact w1.config
    · intro mm
      have := writes_memoryOk l (s := s.beginInstr n)
        ⟨mm.rom, mm.vram, mm.wram, mm.oam, mm.hram, mm.io, mm.bgPal, mm.objPal, mm.eram⟩
      exact ⟨this.rom, this.vram, this.wram, this.oam, this.hram, this.io, this.bgPal, this.objPal, this.eram⟩
    · intro mm
      exact writes_hdmaOk l (s := s.beginInstr n) mm
    · exact ⟨w2.ly, w2.acc⟩
    · intro mm
      show c'.f &&& _ = _
      rw [hcf]
      exact ok.low mm
    · intro hh
      dsimp only at hh
      rw [hcn] at hh
      exact absurd hh (by simp)
    · intro _
      obtain ⟨k, hk⟩ := writes_carry l (s.beginInstr n)
      exact ⟨k, m, hk, rfl⟩
  · have hu : u = { s with cpu := { s.cpu with
        pc := s.cpu.pc + BitVec.ofNat 16 n
        faulted := some { opcode := op, address := s.cpu.pc + BitVec.ofNat 16 n - 1#16 }, halted := false } } := by
      rw [← h]
      rfl
    subst hu
    exact ⟨rfl, rfl, fun m => ⟨m.rom, m.vram, m.wram, m.oam, m.hram, m.io, m.bgPal, m.objPal, m.eram⟩, id,
      ⟨rfl, rfl⟩, id, fun _ => rfl, fun hh => absurd hh (by simp)⟩

/-! ### The lock-step -/

/-- The two ticks do not touch the CPU. -/
theorem ticks_cpu (s : State) (a b : Nat) : ((s.timerTick a).ppuTick b).cpu = s.cpu := by
  rw [(PpuWork.ppuTick (s.timerTick a) b).frame]
  obtain ⟨x, f, h⟩ := timerTick_eq s a
  rw [h]

/-- With IME off the lock-step does not touch the CPU. -/
theorem lockstep_cpu {s : State} (h : s.cpu.ime = false) : s.lockstep.cpu = s.cpu := by
  unfold lockstep interruptCheck
  dsimp only
  have hc := ticks_cpu { s with carryCycles := 0 } (s.carryCycles + s.cycles) (s.carryCycles + s.cycles)
  rw [hc, if_neg (by simp [h])]
  exact hc

/-- A completed line leaves LY a line (R421). -/
theorem completeLines_ly (n : Nat) {s : State} (h : s.ppu.ly.toNat < linesPerFrame) :
    (completeLines n s).ppu.ly.toNat < linesPerFrame ∧ (completeLines n s).ppu.acc = s.ppu.acc - lineCycles * n := by
  induction n generalizing s with
  | zero => exact ⟨h, rfl⟩
  | succ n ih =>
    obtain ⟨e1, e2⟩ := completeLine_line s
    have hl : s.completeLine.ppu.ly.toNat < linesPerFrame := by
      rw [e1]
      simp only [linesPerFrame, BitVec.toNat_ofNat]
      omega
    obtain ⟨i1, i2⟩ := ih hl
    refine ⟨i1, ?_⟩
    rw [completeLines, i2, e2]
    simp only [lineCycles]
    omega

theorem ppuTick_ppuOk {s : State} (h : s.PpuOk) (cyc : Nat) : (s.ppuTick cyc).PpuOk := by
  obtain ⟨h1, h2⟩ := completeLines_ly ((s.ppu.acc + cyc) / lineCycles)
    (s := { s with ppu := { s.ppu with acc := s.ppu.acc + cyc } }) h.1
  refine ⟨h1, ?_⟩
  show (completeLines ((s.ppu.acc + cyc) / lineCycles) _).ppu.acc < _
  rw [h2]
  simp only [lineCycles]
  omega

/-- What the interrupt check and the lock-step keep, and what they leave of the carried cycles. -/
structure Around (s t : State) (carry : Nat) : Prop where
  cart    : t.cart = s.cart
  config  : t.config = s.config
  memory  : s.MemoryOk → t.MemoryOk
  hdma    : s.HdmaOk → t.HdmaOk
  ppu     : s.PpuOk → t.PpuOk
  faulted : t.cpu.faulted = s.cpu.faulted
  f       : t.cpu.f = s.cpu.f
  halted  : s.cpu.halted = false → t.cpu.halted = false
  carried : ∃ k, t.carryCycles = carry + hdmaChunkCycles * k ∨
    t.carryCycles = carry + hdmaChunkCycles * k + s.config.intDispatchCycles

theorem interruptCheck_around (s : State) : Around s s.interruptCheck s.carryCycles := by
  rcases interruptCheck_cases s with h | ⟨-, k, h⟩ <;> rw [h]
  · exact ⟨rfl, rfl, id, id, id, rfl, rfl, id, 0, .inl rfl⟩
  · have hc := takeInterrupt_cpu s k
    have hl : SameLine s (s.push16 s.cpu.pc) :=
      have h := (write_core s (s.cpu.sp - 1#16) s.cpu.pc.hi).2.tr
        (write_core (s.write (s.cpu.sp - 1#16) s.cpu.pc.hi) (s.cpu.sp - 2#16) s.cpu.pc.lo).2
      ⟨h.ly, h.acc⟩
    have hm : s.MemoryOk → (s.push16 s.cpu.pc).MemoryOk := fun m =>
      have := write_memoryOk (write_memoryOk m (s.cpu.sp - 1#16) s.cpu.pc.hi) (s.cpu.sp - 2#16) s.cpu.pc.lo
      ⟨this.rom, this.vram, this.wram, this.oam, this.hram, this.io, this.bgPal, this.objPal, this.eram⟩
    obtain ⟨k1, w1⟩ := write_carry s (s.cpu.sp - 1#16) s.cpu.pc.hi
    obtain ⟨k2, w2⟩ := write_carry (s.write (s.cpu.sp - 1#16) s.cpu.pc.hi) (s.cpu.sp - 2#16) s.cpu.pc.lo
    have hg : (s.push16 s.cpu.pc).config = s.config := by simp [push16]
    constructor
    · show (s.push16 s.cpu.pc).cart = _
      simp [push16]
    · exact hg
    · intro m
      have := hm m
      exact ⟨this.rom, this.vram, this.wram, this.oam, this.hram, this.io, this.bgPal, this.objPal, this.eram⟩
    · exact fun m => write_hdmaOk (write_hdmaOk m (s.cpu.sp - 1#16) s.cpu.pc.hi) (s.cpu.sp - 2#16) s.cpu.pc.lo
    · intro m
      show (s.push16 s.cpu.pc).ppu.ly.toNat < _ ∧ (s.push16 s.cpu.pc).ppu.acc < _
      rw [hl.ly, hl.acc]
      exact m
    · rw [hc]
    · rw [hc]
    · intro _
      rw [hc]
    · refine ⟨k1 + k2, .inr ?_⟩
      show (s.push16 s.cpu.pc).carryCycles + (s.push16 s.cpu.pc).config.intDispatchCycles = _
      rw [hg]
      have : (s.push16 s.cpu.pc).carryCycles = s.carryCycles + hdmaChunkCycles * (k1 + k2) := by
        show ((s.write (s.cpu.sp - 1#16) s.cpu.pc.hi).write (s.cpu.sp - 2#16) s.cpu.pc.lo).carryCycles = _
        rw [w2, w1]
        ring
      rw [this]

/-- The lock-step (R370, R371). -/
theorem lockstep_around (s : State) : Around s s.lockstep 0 ∧ s.lockstep.cycles = s.carryCycles + s.cycles := by
  refine ⟨?_, rfl⟩
  obtain ⟨s0, h0⟩ : ∃ s0 : State, s0 = { s with carryCycles := 0 } := ⟨_, rfl⟩
  obtain ⟨c, hc⟩ : ∃ c, c = s.carryCycles + s.cycles := ⟨_, rfl⟩
  obtain ⟨timer, flags, ht⟩ := timerTick_eq s0 c
  have hp := PpuWork.ppuTick (s0.timerTick c) c
  have hi := interruptCheck_around ((s0.timerTick c).ppuTick c)
  have hcpu := ticks_cpu s0 c c
  have hu : s.lockstep = { ((s0.timerTick c).ppuTick c).interruptCheck with cycles := c } := by
    subst h0 hc
    rfl
  have hg : ((s0.timerTick c).ppuTick c).config = s.config := by rw [hp.frame, ht, h0]
  rw [hu]
  constructor
  · exact hi.cart.trans (by rw [hp.frame, ht, h0])
  · exact hi.config.trans hg
  · intro m
    have m0 : (s0.timerTick c).MemoryOk := by
      rw [ht, h0]
      exact ⟨m.rom, m.vram, m.wram, m.oam, m.hram, m.io, m.bgPal, m.objPal, m.eram⟩
    have m1 : ((s0.timerTick c).ppuTick c).MemoryOk := by
      have hv := hp.vram m0.vram
      have fr := hp.frame
      refine ⟨?_, hv, ?_, ?_, ?_, ?_, ?_, ?_, ?_⟩ <;> rw [fr]
      exacts [m0.rom, m0.wram, m0.oam, m0.hram, m0.io, m0.bgPal, m0.objPal, m0.eram]
    have := hi.memory m1
    exact ⟨this.rom, this.vram, this.wram, this.oam, this.hram, this.io, this.bgPal, this.objPal, this.eram⟩
  · intro m
    exact hi.hdma (hp.hdma (by rw [ht, h0]; exact m))
  · intro m
    exact hi.ppu (ppuTick_ppuOk (by rw [ht, h0]; exact m) c)
  · exact hi.faulted.trans (by rw [hcpu, h0])
  · exact hi.f.trans (by rw [hcpu, h0])
  · intro m
    exact hi.halted (by rw [hcpu, h0]; exact m)
  · obtain ⟨j, hj⟩ := hp.carry
    have z : (s0.timerTick c).carryCycles = 0 := by rw [ht, h0]
    obtain ⟨k, hk⟩ := hi.carried
    rw [hj, z, hg] at hk
    refine ⟨j + k, ?_⟩
    show ((s0.timerTick c).ppuTick c).interruptCheck.carryCycles = _ ∨
      ((s0.timerTick c).ppuTick c).interruptCheck.carryCycles = _
    rcases hk with hk | hk
    · exact .inl (by rw [hk]; ring)
    · exact .inr (by rw [hk]; ring)

end State

end Sys2Proof.Machine
end

