-- ==== Sys2Proof/Tests/Slice0.lean ====
section
/-! SUPPORT. The model's own tests. A docstring names the source of the expected result: a rule, or a vector of
95_test_vectors.md; those of one step follow that file's start conventions. -/

open Sys2Proof Sys2Proof.Machine

namespace Sys2Proof.Tests

-- One theorem at a time: side by side, the checks of this file take more threads than the memory limit has stacks for.
set_option Elab.async false

/-- The start state of 95_test_vectors.md: `code` in the image at 0100, registers changed by `g`, bytes placed. -/
def start (code : List Byte) (g : Cpu → Cpu) (bytes : List (Word × Byte)) : State :=
  let s : State := { State.reset with
    cpu := g { a := 0#8, f := 0#8, b := 0#8, c := 0#8, d := 0#8, e := 0#8, h := 0#8, l := 0#8, sp := 0xFFFE#16
               pc := 0x0100#16, ime := false, imePending := false, halted := false, faulted := none }
    cart := { State.blankCartridge with rom := Memory.ofBytes 0x100 code } }
  bytes.foldl (fun s p =>
    if State.storable (s.route p.1) then s.placeByte p.2 (s.route p.1) else s.write p.1 p.2) s

/-- What `f` says of the next state, if the result is one. -/
def ofNext {α : Type} (r : Result) (f : State → α) : Option α :=
  match r with
  | .next t => some (f t)
  | .fault _ => none
  | .refused _ => none

/-- What `f` says of the state after one step. -/
def after {α : Type} (s : State) (f : State → α) : Option α := ofNext (step s) f

/-- Bus writes one after another. -/
def writes (s : State) (l : List (Word × Byte)) : State := l.foldl (fun s p => s.write p.1 p.2) s

/-- The machine in CGB mode. -/
def cgb (s : State) : State := { s with cart := { s.cart with cgbMode := true } }

/-- A machine with another cartridge, its image all zero. -/
def withCart (kind : MbcKind) (romBanks ramBanks : Nat) : State :=
  State.powerOn Config.default
    { rom := [], cgbMode := false, kind := kind, hasRam := true, hasBattery := true, hasRtc := true
      romBanks := romBanks, ramBanks := ramBanks } []

/-- Shades as a list of pixels. -/
def shades (l : List Nat) : List Pixel := l.map fun n => Pixel.shade (BitVec.ofNat 2 n)

/-- A rendered line. -/
def lineOf (s : State) (ly : Nat) : List Pixel := ((s.renderScanline ly).ppu.raster[ly]?).getD []

/-! ### Well-formedness -/

/-- R356: 0xCB "is not an instruction by itself"; the check refuses it and nothing else here. -/
theorem test_wf_refuses_the_prefix : (Instr.prefixCb 0x37#8).wf = false ∧ Instr.swap_A.wf = true := by decide

/-! ### Decoding: every constructor, its word written out from R175 to R180 (operand bytes 0x34, 0x12) -/

theorem test_decode_00 : [0x00#8, 0x01#8, 0x02#8, 0x03#8, 0x04#8, 0x05#8, 0x06#8, 0x07#8, 0x08#8, 0x09#8, 0x0A#8,
  0x0B#8, 0x0C#8, 0x0D#8, 0x0E#8, 0x0F#8].map (decodeBytes · 0x34#8 0x12#8) = [.nop, .ld_BC_n16 0x1234#16,
  .ld_atBC_A, .inc_BC, .inc_B, .dec_B, .ld_B_n8 0x34#8, .rlca, .ld_atA16_SP 0x1234#16, .add_HL_BC, .ld_A_atBC,
  .dec_BC, .inc_C, .dec_C, .ld_C_n8 0x34#8, .rrca] := by
  decide +kernel

theorem test_decode_10 : [0x10#8, 0x11#8, 0x12#8, 0x13#8, 0x14#8, 0x15#8, 0x16#8, 0x17#8, 0x18#8, 0x19#8, 0x1A#8,
  0x1B#8, 0x1C#8, 0x1D#8, 0x1E#8, 0x1F#8].map (decodeBytes · 0x34#8 0x12#8) = [.stop 0x34#8, .ld_DE_n16 0x1234#16,
  .ld_atDE_A, .inc_DE, .inc_D, .dec_D, .ld_D_n8 0x34#8, .rla, .jr_e8 0x34#8, .add_HL_DE, .ld_A_atDE, .dec_DE,
  .inc_E, .dec_E, .ld_E_n8 0x34#8, .rra] := by
  decide +kernel

theorem test_decode_20 : [0x20#8, 0x21#8, 0x22#8, 0x23#8, 0x24#8, 0x25#8, 0x26#8, 0x27#8, 0x28#8, 0x29#8, 0x2A#8,
  0x2B#8, 0x2C#8, 0x2D#8, 0x2E#8, 0x2F#8].map (decodeBytes · 0x34#8 0x12#8) = [.jr_NZ_e8 0x34#8, .ld_HL_n16
  0x1234#16, .ld_atHLI_A, .inc_HL, .inc_H, .dec_H, .ld_H_n8 0x34#8, .daa, .jr_Z_e8 0x34#8, .add_HL_HL, .ld_A_atHLI,
  .dec_HL, .inc_L, .dec_L, .ld_L_n8 0x34#8, .cpl] := by
  decide +kernel

theorem test_decode_30 : [0x30#8, 0x31#8, 0x32#8, 0x33#8, 0x34#8, 0x35#8, 0x36#8, 0x37#8, 0x38#8, 0x39#8, 0x3A#8,
  0x3B#8, 0x3C#8, 0x3D#8, 0x3E#8, 0x3F#8].map (decodeBytes · 0x34#8 0x12#8) = [.jr_NC_e8 0x34#8, .ld_SP_n16
  0x1234#16, .ld_atHLD_A, .inc_SP, .inc_atHL, .dec_atHL, .ld_atHL_n8 0x34#8, .scf, .jr_C_e8 0x34#8, .add_HL_SP,
  .ld_A_atHLD, .dec_SP, .inc_A, .dec_A, .ld_A_n8 0x34#8, .ccf] := by
  decide +kernel

theorem test_decode_40 : [0x40#8, 0x41#8, 0x42#8, 0x43#8, 0x44#8, 0x45#8, 0x46#8, 0x47#8, 0x48#8, 0x49#8, 0x4A#8,
  0x4B#8, 0x4C#8, 0x4D#8, 0x4E#8, 0x4F#8].map (decodeBytes · 0x34#8 0x12#8) = [.ld_B_B, .ld_B_C, .ld_B_D, .ld_B_E,
  .ld_B_H, .ld_B_L, .ld_B_atHL, .ld_B_A, .ld_C_B, .ld_C_C, .ld_C_D, .ld_C_E, .ld_C_H, .ld_C_L, .ld_C_atHL, .ld_C_A]
  := by
  decide +kernel

theorem test_decode_50 : [0x50#8, 0x51#8, 0x52#8, 0x53#8, 0x54#8, 0x55#8, 0x56#8, 0x57#8, 0x58#8, 0x59#8, 0x5A#8,
  0x5B#8, 0x5C#8, 0x5D#8, 0x5E#8, 0x5F#8].map (decodeBytes · 0x34#8 0x12#8) = [.ld_D_B, .ld_D_C, .ld_D_D, .ld_D_E,
  .ld_D_H, .ld_D_L, .ld_D_atHL, .ld_D_A, .ld_E_B, .ld_E_C, .ld_E_D, .ld_E_E, .ld_E_H, .ld_E_L, .ld_E_atHL, .ld_E_A]
  := by
  decide +kernel

theorem test_decode_60 : [0x60#8, 0x61#8, 0x62#8, 0x63#8, 0x64#8, 0x65#8, 0x66#8, 0x67#8, 0x68#8, 0x69#8, 0x6A#8,
  0x6B#8, 0x6C#8, 0x6D#8, 0x6E#8, 0x6F#8].map (decodeBytes · 0x34#8 0x12#8) = [.ld_H_B, .ld_H_C, .ld_H_D, .ld_H_E,
  .ld_H_H, .ld_H_L, .ld_H_atHL, .ld_H_A, .ld_L_B, .ld_L_C, .ld_L_D, .ld_L_E, .ld_L_H, .ld_L_L, .ld_L_atHL, .ld_L_A]
  := by
  decide +kernel

theorem test_decode_70 : [0x70#8, 0x71#8, 0x72#8, 0x73#8, 0x74#8, 0x75#8, 0x76#8, 0x77#8, 0x78#8, 0x79#8, 0x7A#8,
  0x7B#8, 0x7C#8, 0x7D#8, 0x7E#8, 0x7F#8].map (decodeBytes · 0x34#8 0x12#8) = [.ld_atHL_B, .ld_atHL_C, .ld_atHL_D,
  .ld_atHL_E, .ld_atHL_H, .ld_atHL_L, .halt, .ld_atHL_A, .ld_A_B, .ld_A_C, .ld_A_D, .ld_A_E, .ld_A_H, .ld_A_L,
  .ld_A_atHL, .ld_A_A] := by
  decide +kernel

theorem test_decode_80 : [0x80#8, 0x81#8, 0x82#8, 0x83#8, 0x84#8, 0x85#8, 0x86#8, 0x87#8, 0x88#8, 0x89#8, 0x8A#8,
  0x8B#8, 0x8C#8, 0x8D#8, 0x8E#8, 0x8F#8].map (decodeBytes · 0x34#8 0x12#8) = [.add_A_B, .add_A_C, .add_A_D,
  .add_A_E, .add_A_H, .add_A_L, .add_A_atHL, .add_A_A, .adc_A_B, .adc_A_C, .adc_A_D, .adc_A_E, .adc_A_H, .adc_A_L,
  .adc_A_atHL, .adc_A_A] := by
  decide +kernel

theorem test_decode_90 : [0x90#8, 0x91#8, 0x92#8, 0x93#8, 0x94#8, 0x95#8, 0x96#8, 0x97#8, 0x98#8, 0x99#8, 0x9A#8,
  0x9B#8, 0x9C#8, 0x9D#8, 0x9E#8, 0x9F#8].map (decodeBytes · 0x34#8 0x12#8) = [.sub_A_B, .sub_A_C, .sub_A_D,
  .sub_A_E, .sub_A_H, .sub_A_L, .sub_A_atHL, .sub_A_A, .sbc_A_B, .sbc_A_C, .sbc_A_D, .sbc_A_E, .sbc_A_H, .sbc_A_L,
  .sbc_A_atHL, .sbc_A_A] := by
  decide +kernel

theorem test_decode_A0 : [0xA0#8, 0xA1#8, 0xA2#8, 0xA3#8, 0xA4#8, 0xA5#8, 0xA6#8, 0xA7#8, 0xA8#8, 0xA9#8, 0xAA#8,
  0xAB#8, 0xAC#8, 0xAD#8, 0xAE#8, 0xAF#8].map (decodeBytes · 0x34#8 0x12#8) = [.and_A_B, .and_A_C, .and_A_D,
  .and_A_E, .and_A_H, .and_A_L, .and_A_atHL, .and_A_A, .xor_A_B, .xor_A_C, .xor_A_D, .xor_A_E, .xor_A_H, .xor_A_L,
  .xor_A_atHL, .xor_A_A] := by
  decide +kernel

theorem test_decode_B0 : [0xB0#8, 0xB1#8, 0xB2#8, 0xB3#8, 0xB4#8, 0xB5#8, 0xB6#8, 0xB7#8, 0xB8#8, 0xB9#8, 0xBA#8,
  0xBB#8, 0xBC#8, 0xBD#8, 0xBE#8, 0xBF#8].map (decodeBytes · 0x34#8 0x12#8) = [.or_A_B, .or_A_C, .or_A_D, .or_A_E,
  .or_A_H, .or_A_L, .or_A_atHL, .or_A_A, .cp_A_B, .cp_A_C, .cp_A_D, .cp_A_E, .cp_A_H, .cp_A_L, .cp_A_atHL, .cp_A_A]
  := by
  decide +kernel

theorem test_decode_C0 : [0xC0#8, 0xC1#8, 0xC2#8, 0xC3#8, 0xC4#8, 0xC5#8, 0xC6#8, 0xC7#8, 0xC8#8, 0xC9#8, 0xCA#8,
  0xCC#8, 0xCD#8, 0xCE#8, 0xCF#8].map (decodeBytes · 0x34#8 0x12#8) = [.ret_NZ, .pop_BC, .jp_NZ_a16 0x1234#16,
  .jp_a16 0x1234#16, .call_NZ_a16 0x1234#16, .push_BC, .add_A_n8 0x34#8, .rst_00, .ret_Z, .ret, .jp_Z_a16 0x1234#16,
  .call_Z_a16 0x1234#16, .call_a16 0x1234#16, .adc_A_n8 0x34#8, .rst_08] := by
  decide +kernel

theorem test_decode_D0 : [0xD0#8, 0xD1#8, 0xD2#8, 0xD3#8, 0xD4#8, 0xD5#8, 0xD6#8, 0xD7#8, 0xD8#8, 0xD9#8, 0xDA#8,
  0xDB#8, 0xDC#8, 0xDD#8, 0xDE#8, 0xDF#8].map (decodeBytes · 0x34#8 0x12#8) = [.ret_NC, .pop_DE, .jp_NC_a16
  0x1234#16, .illegal_D3, .call_NC_a16 0x1234#16, .push_DE, .sub_A_n8 0x34#8, .rst_10, .ret_C, .reti, .jp_C_a16
  0x1234#16, .illegal_DB, .call_C_a16 0x1234#16, .illegal_DD, .sbc_A_n8 0x34#8, .rst_18] := by
  decide +kernel

theorem test_decode_E0 : [0xE0#8, 0xE1#8, 0xE2#8, 0xE3#8, 0xE4#8, 0xE5#8, 0xE6#8, 0xE7#8, 0xE8#8, 0xE9#8, 0xEA#8,
  0xEB#8, 0xEC#8, 0xED#8, 0xEE#8, 0xEF#8].map (decodeBytes · 0x34#8 0x12#8) = [.ldh_atA8_A 0x34#8, .pop_HL,
  .ldh_atC_A, .illegal_E3, .illegal_E4, .push_HL, .and_A_n8 0x34#8, .rst_20, .add_SP_e8 0x34#8, .jp_HL, .ld_atA16_A
  0x1234#16, .illegal_EB, .illegal_EC, .illegal_ED, .xor_A_n8 0x34#8, .rst_28] := by
  decide +kernel

theorem test_decode_F0 : [0xF0#8, 0xF1#8, 0xF2#8, 0xF3#8, 0xF4#8, 0xF5#8, 0xF6#8, 0xF7#8, 0xF8#8, 0xF9#8, 0xFA#8,
  0xFB#8, 0xFC#8, 0xFD#8, 0xFE#8, 0xFF#8].map (decodeBytes · 0x34#8 0x12#8) = [.ldh_A_atA8 0x34#8, .pop_AF,
  .ldh_A_atC, .di, .illegal_F4, .push_AF, .or_A_n8 0x34#8, .rst_30, .ld_HL_SP_e8 0x34#8, .ld_SP_HL, .ld_A_atA16
  0x1234#16, .ei, .illegal_FC, .illegal_FD, .cp_A_n8 0x34#8, .rst_38] := by
  decide +kernel

theorem test_decode_CB_00 : [0x00#8, 0x01#8, 0x02#8, 0x03#8, 0x04#8, 0x05#8, 0x06#8, 0x07#8, 0x08#8, 0x09#8, 0x0A#8,
  0x0B#8, 0x0C#8, 0x0D#8, 0x0E#8, 0x0F#8].map (decodeBytes 0xCB#8 · 0x12#8) = [.rlc_B, .rlc_C, .rlc_D, .rlc_E,
  .rlc_H, .rlc_L, .rlc_atHL, .rlc_A, .rrc_B, .rrc_C, .rrc_D, .rrc_E, .rrc_H, .rrc_L, .rrc_atHL, .rrc_A] := by
  decide +kernel

theorem test_decode_CB_10 : [0x10#8, 0x11#8, 0x12#8, 0x13#8, 0x14#8, 0x15#8, 0x16#8, 0x17#8, 0x18#8, 0x19#8, 0x1A#8,
  0x1B#8, 0x1C#8, 0x1D#8, 0x1E#8, 0x1F#8].map (decodeBytes 0xCB#8 · 0x12#8) = [.rl_B, .rl_C, .rl_D, .rl_E, .rl_H,
  .rl_L, .rl_atHL, .rl_A, .rr_B, .rr_C, .rr_D, .rr_E, .rr_H, .rr_L, .rr_atHL, .rr_A] := by
  decide +kernel

theorem test_decode_CB_20 : [0x20#8, 0x21#8, 0x22#8, 0x23#8, 0x24#8, 0x25#8, 0x26#8, 0x27#8, 0x28#8, 0x29#8, 0x2A#8,
  0x2B#8, 0x2C#8, 0x2D#8, 0x2E#8, 0x2F#8].map (decodeBytes 0xCB#8 · 0x12#8) = [.sla_B, .sla_C, .sla_D, .sla_E,
  .sla_H, .sla_L, .sla_atHL, .sla_A, .sra_B, .sra_C, .sra_D, .sra_E, .sra_H, .sra_L, .sra_atHL, .sra_A] := by
  decide +kernel

theorem test_decode_CB_30 : [0x30#8, 0x31#8, 0x32#8, 0x33#8, 0x34#8, 0x35#8, 0x36#8, 0x37#8, 0x38#8, 0x39#8, 0x3A#8,
  0x3B#8, 0x3C#8, 0x3D#8, 0x3E#8, 0x3F#8].map (decodeBytes 0xCB#8 · 0x12#8) = [.swap_B, .swap_C, .swap_D, .swap_E,
  .swap_H, .swap_L, .swap_atHL, .swap_A, .srl_B, .srl_C, .srl_D, .srl_E, .srl_H, .srl_L, .srl_atHL, .srl_A] := by
  decide +kernel

theorem test_decode_CB_40 : [0x40#8, 0x41#8, 0x42#8, 0x43#8, 0x44#8, 0x45#8, 0x46#8, 0x47#8, 0x48#8, 0x49#8, 0x4A#8,
  0x4B#8, 0x4C#8, 0x4D#8, 0x4E#8, 0x4F#8].map (decodeBytes 0xCB#8 · 0x12#8) = [.bit_0_B, .bit_0_C, .bit_0_D,
  .bit_0_E, .bit_0_H, .bit_0_L, .bit_0_atHL, .bit_0_A, .bit_1_B, .bit_1_C, .bit_1_D, .bit_1_E, .bit_1_H, .bit_1_L,
  .bit_1_atHL, .bit_1_A] := by
  decide +kernel

theorem test_decode_CB_50 : [0x50#8, 0x51#8, 0x52#8, 0x53#8, 0x54#8, 0x55#8, 0x56#8, 0x57#8, 0x58#8, 0x59#8, 0x5A#8,
  0x5B#8, 0x5C#8, 0x5D#8, 0x5E#8, 0x5F#8].map (decodeBytes 0xCB#8 · 0x12#8) = [.bit_2_B, .bit_2_C, .bit_2_D,
  .bit_2_E, .bit_2_H, .bit_2_L, .bit_2_atHL, .bit_2_A, .bit_3_B, .bit_3_C, .bit_3_D, .bit_3_E, .bit_3_H, .bit_3_L,
  .bit_3_atHL, .bit_3_A] := by
  decide +kernel

theorem test_decode_CB_60 : [0x60#8, 0x61#8, 0x62#8, 0x63#8, 0x64#8, 0x65#8, 0x66#8, 0x67#8, 0x68#8, 0x69#8, 0x6A#8,
  0x6B#8, 0x6C#8, 0x6D#8, 0x6E#8, 0x6F#8].map (decodeBytes 0xCB#8 · 0x12#8) = [.bit_4_B, .bit_4_C, .bit_4_D,
  .bit_4_E, .bit_4_H, .bit_4_L, .bit_4_atHL, .bit_4_A, .bit_5_B, .bit_5_C, .bit_5_D, .bit_5_E, .bit_5_H, .bit_5_L,
  .bit_5_atHL, .bit_5_A] := by
  decide +kernel

theorem test_decode_CB_70 : [0x70#8, 0x71#8, 0x72#8, 0x73#8, 0x74#8, 0x75#8, 0x76#8, 0x77#8, 0x78#8, 0x79#8, 0x7A#8,
  0x7B#8, 0x7C#8, 0x7D#8, 0x7E#8, 0x7F#8].map (decodeBytes 0xCB#8 · 0x12#8) = [.bit_6_B, .bit_6_C, .bit_6_D,
  .bit_6_E, .bit_6_H, .bit_6_L, .bit_6_atHL, .bit_6_A, .bit_7_B, .bit_7_C, .bit_7_D, .bit_7_E, .bit_7_H, .bit_7_L,
  .bit_7_atHL, .bit_7_A] := by
  decide +kernel

theorem test_decode_CB_80 : [0x80#8, 0x81#8, 0x82#8, 0x83#8, 0x84#8, 0x85#8, 0x86#8, 0x87#8, 0x88#8, 0x89#8, 0x8A#8,
  0x8B#8, 0x8C#8, 0x8D#8, 0x8E#8, 0x8F#8].map (decodeBytes 0xCB#8 · 0x12#8) = [.res_0_B, .res_0_C, .res_0_D,
  .res_0_E, .res_0_H, .res_0_L, .res_0_atHL, .res_0_A, .res_1_B, .res_1_C, .res_1_D, .res_1_E, .res_1_H, .res_1_L,
  .res_1_atHL, .res_1_A] := by
  decide +kernel

theorem test_decode_CB_90 : [0x90#8, 0x91#8, 0x92#8, 0x93#8, 0x94#8, 0x95#8, 0x96#8, 0x97#8, 0x98#8, 0x99#8, 0x9A#8,
  0x9B#8, 0x9C#8, 0x9D#8, 0x9E#8, 0x9F#8].map (decodeBytes 0xCB#8 · 0x12#8) = [.res_2_B, .res_2_C, .res_2_D,
  .res_2_E, .res_2_H, .res_2_L, .res_2_atHL, .res_2_A, .res_3_B, .res_3_C, .res_3_D, .res_3_E, .res_3_H, .res_3_L,
  .res_3_atHL, .res_3_A] := by
  decide +kernel

theorem test_decode_CB_A0 : [0xA0#8, 0xA1#8, 0xA2#8, 0xA3#8, 0xA4#8, 0xA5#8, 0xA6#8, 0xA7#8, 0xA8#8, 0xA9#8, 0xAA#8,
  0xAB#8, 0xAC#8, 0xAD#8, 0xAE#8, 0xAF#8].map (decodeBytes 0xCB#8 · 0x12#8) = [.res_4_B, .res_4_C, .res_4_D,
  .res_4_E, .res_4_H, .res_4_L, .res_4_atHL, .res_4_A, .res_5_B, .res_5_C, .res_5_D, .res_5_E, .res_5_H, .res_5_L,
  .res_5_atHL, .res_5_A] := by
  decide +kernel

theorem test_decode_CB_B0 : [0xB0#8, 0xB1#8, 0xB2#8, 0xB3#8, 0xB4#8, 0xB5#8, 0xB6#8, 0xB7#8, 0xB8#8, 0xB9#8, 0xBA#8,
  0xBB#8, 0xBC#8, 0xBD#8, 0xBE#8, 0xBF#8].map (decodeBytes 0xCB#8 · 0x12#8) = [.res_6_B, .res_6_C, .res_6_D,
  .res_6_E, .res_6_H, .res_6_L, .res_6_atHL, .res_6_A, .res_7_B, .res_7_C, .res_7_D, .res_7_E, .res_7_H, .res_7_L,
  .res_7_atHL, .res_7_A] := by
  decide +kernel

theorem test_decode_CB_C0 : [0xC0#8, 0xC1#8, 0xC2#8, 0xC3#8, 0xC4#8, 0xC5#8, 0xC6#8, 0xC7#8, 0xC8#8, 0xC9#8, 0xCA#8,
  0xCB#8, 0xCC#8, 0xCD#8, 0xCE#8, 0xCF#8].map (decodeBytes 0xCB#8 · 0x12#8) = [.set_0_B, .set_0_C, .set_0_D,
  .set_0_E, .set_0_H, .set_0_L, .set_0_atHL, .set_0_A, .set_1_B, .set_1_C, .set_1_D, .set_1_E, .set_1_H, .set_1_L,
  .set_1_atHL, .set_1_A] := by
  decide +kernel

theorem test_decode_CB_D0 : [0xD0#8, 0xD1#8, 0xD2#8, 0xD3#8, 0xD4#8, 0xD5#8, 0xD6#8, 0xD7#8, 0xD8#8, 0xD9#8, 0xDA#8,
  0xDB#8, 0xDC#8, 0xDD#8, 0xDE#8, 0xDF#8].map (decodeBytes 0xCB#8 · 0x12#8) = [.set_2_B, .set_2_C, .set_2_D,
  .set_2_E, .set_2_H, .set_2_L, .set_2_atHL, .set_2_A, .set_3_B, .set_3_C, .set_3_D, .set_3_E, .set_3_H, .set_3_L,
  .set_3_atHL, .set_3_A] := by
  decide +kernel

theorem test_decode_CB_E0 : [0xE0#8, 0xE1#8, 0xE2#8, 0xE3#8, 0xE4#8, 0xE5#8, 0xE6#8, 0xE7#8, 0xE8#8, 0xE9#8, 0xEA#8,
  0xEB#8, 0xEC#8, 0xED#8, 0xEE#8, 0xEF#8].map (decodeBytes 0xCB#8 · 0x12#8) = [.set_4_B, .set_4_C, .set_4_D,
  .set_4_E, .set_4_H, .set_4_L, .set_4_atHL, .set_4_A, .set_5_B, .set_5_C, .set_5_D, .set_5_E, .set_5_H, .set_5_L,
  .set_5_atHL, .set_5_A] := by
  decide +kernel

theorem test_decode_CB_F0 : [0xF0#8, 0xF1#8, 0xF2#8, 0xF3#8, 0xF4#8, 0xF5#8, 0xF6#8, 0xF7#8, 0xF8#8, 0xF9#8, 0xFA#8,
  0xFB#8, 0xFC#8, 0xFD#8, 0xFE#8, 0xFF#8].map (decodeBytes 0xCB#8 · 0x12#8) = [.set_6_B, .set_6_C, .set_6_D,
  .set_6_E, .set_6_H, .set_6_L, .set_6_atHL, .set_6_A, .set_7_B, .set_7_C, .set_7_D, .set_7_E, .set_7_H, .set_7_L,
  .set_7_atHL, .set_7_A] := by
  decide +kernel

/-- R170, R173: a list that ends too soon is refused by name. -/
theorem test_decode_truncated :
    decode [] = .error .noBytes ∧ decode [0xC3#8, 0x34#8] = .error (.truncated 0xC3#8) ∧
    decode [0xCB#8] = .error (.truncated 0xCB#8) := ⟨rfl, rfl, rfl⟩

/-- Words of spec/opcode_table.json. -/
theorem test_table_words :
    decodeTableWord 8 0x76 = some .halt ∧ decodeTableWord 8 0xC3 = some (.jp_a16 0x0000#16) ∧
    decodeTableWord 16 0xCB7C = some .bit_7_H ∧ decodeTableWord 16 0xCBCB = some .set_1_E ∧
    decodeTableWord 8 0xCB = some (.prefixCb 0x00#8) := by
  decide +kernel

/-- R105: the word placed where the next step fetches is what that step fetches. -/
theorem test_fetch_word :
    (State.reset.withFetchWord 16 0xCB7C).fetched = .bit_7_H ∧ (State.reset.withFetchWord 8 0xDD).fetched = .illegal_DD ∧
    after (State.reset.withFetchWord 8 0x3C) (fun t => (t.cpu.a, t.cpu.pc)) = some (0x02#8, 0x0101#16) := by
  decide +kernel

/-! ### One step of each rule (95_test_vectors.md 2.1 to 2.6) -/

/-- `LD B,C`, `LD A,A`. -/
theorem test_R200 :
    after (start [0x41#8] (fun c => { c with c := 0x5A#8 }) []) (fun t => (t.cpu.b, t.cpu.c, t.cpu.f, t.cpu.pc,
      t.cycles)) = some (0x5A#8, 0x5A#8, 0x00#8, 0x0101#16, 4) ∧
    after (start [0x7F#8] (fun c => { c with a := 0x77#8, f := 0xF0#8 }) []) (fun t => (t.cpu.a, t.cpu.f, t.cpu.pc,
      t.cycles)) = some (0x77#8, 0xF0#8, 0x0101#16, 4) := by
  decide +kernel

/-- `LD D,0x9C`. -/
theorem test_R201 :
    after (start [0x16#8, 0x9C#8] id []) (fun t => (t.cpu.d, t.cpu.pc, t.cycles)) = some (0x9C#8, 0x0102#16, 8) := by
  decide +kernel

/-- `LD E,(HL)`. -/
theorem test_R202 :
    after (start [0x5E#8] (fun c => { c with h := 0xC1#8, l := 0x23#8 }) [(0xC123#16, 0xAB#8)]) (fun t => (t.cpu.e,
      t.cpu.pc, t.cycles)) = some (0xAB#8, 0x0101#16, 8) := by
  decide +kernel

/-- `LD (HL),B`, `LD (HL),A into ROM`. -/
theorem test_R203 :
    after (start [0x70#8] (fun c => { c with h := 0xC0#8, l := 0x00#8, b := 0x42#8 }) []) (fun t => (t.read 0xC000#16,
      t.cpu.pc, t.cycles)) = some (0x42#8, 0x0101#16, 8) ∧
    after (start [0x77#8] (fun c => { c with h := 0x01#8, l := 0x50#8, a := 0x12#8 }) [(0x0150#16, 0xEE#8)]) (fun t =>
      (t.read 0x0150#16, t.cpu.pc, t.cycles)) = some (0xEE#8, 0x0101#16, 8) := by
  decide +kernel

/-- `LD (HL),0x99`. -/
theorem test_R204 :
    after (start [0x36#8, 0x99#8] (fun c => { c with h := 0xDF#8, l := 0xFF#8 }) []) (fun t => (t.cpu.pc, t.read
      0xDFFF#16, t.cycles)) = some (0x0102#16, 0x99#8, 12) := by
  decide +kernel

/-- `LD A,(BC)`. -/
theorem test_R205 :
    after (start [0x0A#8] (fun c => { c with b := 0xC0#8, c := 0x10#8 }) [(0xC010#16, 0x31#8)]) (fun t => (t.cpu.a,
      t.cpu.pc, t.cycles)) = some (0x31#8, 0x0101#16, 8) := by
  decide +kernel

/-- `LD A,(DE)`. -/
theorem test_R206 :
    after (start [0x1A#8] (fun c => { c with d := 0xFE#8, e := 0xA0#8 }) []) (fun t => (t.cpu.a, t.cpu.pc, t.cycles)) =
      some (0xFF#8, 0x0101#16, 8) := by
  decide +kernel

/-- `LD (BC),A`. -/
theorem test_R207 :
    after (start [0x02#8] (fun c => { c with b := 0xC0#8, c := 0x11#8, a := 0x5C#8 }) []) (fun t => (t.read 0xC011#16,
      t.cpu.pc, t.cycles)) = some (0x5C#8, 0x0101#16, 8) := by
  decide +kernel

/-- `LD (DE),A`. -/
theorem test_R208 :
    after (start [0x12#8] (fun c => { c with d := 0xE0#8, e := 0x00#8, a := 0x7E#8 }) []) (fun t => (t.read 0xC000#16,
      t.read 0xE000#16, t.cpu.pc, t.cycles)) = some (0x7E#8, 0x7E#8, 0x0101#16, 8) := by
  decide +kernel

/-- `LD (HL+),A`. -/
theorem test_R215 :
    after (start [0x22#8] (fun c => { c with h := 0xC0#8, l := 0xFF#8, a := 0x01#8 }) []) (fun t => (t.cpu.hl, t.read
      0xC0FF#16, t.cpu.pc, t.cycles)) = some (0xC100#16, 0x01#8, 0x0101#16, 8) ∧
    after (start [0x22#8] (fun c => { c with h := 0xFF#8, l := 0xFF#8, a := 0x1F#8 }) []) (fun t => (t.cpu.hl, t.read
      0xFFFF#16, t.cpu.pc, t.cycles)) = some (0x0000#16, 0x1F#8, 0x0101#16, 8) := by
  decide +kernel

/-- `LD A,(HL+)`. -/
theorem test_R216 :
    after (start [0x2A#8] (fun c => { c with h := 0xC0#8, l := 0x00#8 }) [(0xC000#16, 0x66#8)]) (fun t => (t.cpu.a,
      t.cpu.hl, t.cpu.pc, t.cycles)) = some (0x66#8, 0xC001#16, 0x0101#16, 8) := by
  decide +kernel

/-- `LD (HL-),A`. -/
theorem test_R217 :
    after (start [0x32#8] (fun c => { c with h := 0xC0#8, l := 0x00#8, a := 0x02#8 }) []) (fun t => (t.cpu.hl, t.read
      0xC000#16, t.cpu.pc, t.cycles)) = some (0xBFFF#16, 0x02#8, 0x0101#16, 8) := by
  decide +kernel

/-- `LD A,(HL-)`. -/
theorem test_R218 :
    after (start [0x3A#8] (fun c => { c with h := 0x00#8, l := 0x00#8 }) [(0x0000#16, 0x3C#8)]) (fun t => (t.cpu.a,
      t.cpu.hl, t.cpu.pc, t.cycles)) = some (0x3C#8, 0xFFFF#16, 0x0101#16, 8) := by
  decide +kernel

/-- `LDH (0x80),A`. -/
theorem test_R212 :
    after (start [0xE0#8, 0x80#8] (fun c => { c with a := 0xA5#8 }) []) (fun t => (t.read 0xFF80#16, t.cpu.pc,
      t.cycles)) = some (0xA5#8, 0x0102#16, 12) := by
  decide +kernel

/-- `LDH A,(0x0F)`, `LDH A,(0x07)`. -/
theorem test_R211 :
    after (start [0xF0#8, 0x0F#8] id [(0xFF0F#16, 0x05#8)]) (fun t => (t.cpu.a, t.cpu.pc, t.cycles)) = some (0xE5#8,
      0x0102#16, 12) ∧
    after (start [0xF0#8, 0x07#8] id [(0xFF07#16, 0x05#8)]) (fun t => (t.cpu.a, t.cpu.pc, t.cycles)) = some (0xFD#8,
      0x0102#16, 12) := by
  decide +kernel

/-- `LD (C),A`. -/
theorem test_R214 :
    after (start [0xE2#8] (fun c => { c with c := 0x81#8, a := 0x33#8 }) []) (fun t => (t.read 0xFF81#16, t.cpu.pc,
      t.cycles)) = some (0x33#8, 0x0101#16, 8) := by
  decide +kernel

/-- `LD (0xC234),A`. -/
theorem test_R210 :
    after (start [0xEA#8, 0x34#8, 0xC2#8] (fun c => { c with a := 0x9D#8 }) []) (fun t => (t.cpu.pc, t.read 0xC234#16,
      t.cycles)) = some (0x0103#16, 0x9D#8, 16) := by
  decide +kernel

/-- `LD A,(0xFF80)`. -/
theorem test_R209 :
    after (start [0xFA#8, 0x80#8, 0xFF#8] id [(0xFF80#16, 0x21#8)]) (fun t => (t.cpu.a, t.cpu.pc, t.cycles)) = some
      (0x21#8, 0x0103#16, 16) := by
  decide +kernel

/-- `LD BC,0x1234`, `LD SP,0xD000`. -/
theorem test_R230 :
    after (start [0x01#8, 0x34#8, 0x12#8] id []) (fun t => (t.cpu.b, t.cpu.c, t.cpu.pc, t.cycles)) = some (0x12#8,
      0x34#8, 0x0103#16, 12) ∧
    after (start [0x31#8, 0x00#8, 0xD0#8] id []) (fun t => (t.cpu.sp, t.cpu.pc, t.cycles)) = some (0xD000#16, 0x0103#16,
      12) := by
  decide +kernel

/-- `LD (0xC100),SP`. -/
theorem test_R231 :
    after (start [0x08#8, 0x00#8, 0xC1#8] (fun c => { c with sp := 0xFFF8#16 }) []) (fun t => (t.read 0xC100#16, t.read
      0xC101#16, t.cpu.pc, t.cycles)) = some (0xF8#8, 0xFF#8, 0x0103#16, 20) := by
  decide +kernel

/-- `LD SP,HL`. -/
theorem test_R232 :
    after (start [0xF9#8] (fun c => { c with h := 0xC8#8, l := 0x00#8 }) []) (fun t => (t.cpu.sp, t.cpu.pc, t.cycles)) =
      some (0xC800#16, 0x0101#16, 8) := by
  decide +kernel

/-- `PUSH AF`. -/
theorem test_R233 :
    after (start [0xF5#8] (fun c => { c with a := 0x12#8, f := 0xB0#8, sp := 0xD000#16 }) []) (fun t => (t.cpu.sp,
      t.read 0xCFFF#16, t.read 0xCFFE#16, t.cpu.pc, t.cycles)) = some (0xCFFE#16, 0x12#8, 0xB0#8, 0x0101#16, 16) := by
  decide +kernel

/-- `POP DE`, `POP BC (SP=0xFFFF)`. -/
theorem test_R234 :
    after (start [0xD1#8] (fun c => { c with sp := 0xCFFE#16 }) [(0xCFFE#16, 0x34#8), (0xCFFF#16, 0x12#8)]) (fun t =>
      (t.cpu.de, t.cpu.sp, t.cpu.pc, t.cycles)) = some (0x1234#16, 0xD000#16, 0x0101#16, 12) ∧
    after (start [0xC1#8] (fun c => { c with sp := 0xFFFF#16 }) [(0xFFFF#16, 0x1F#8), (0x0000#16, 0x77#8)]) (fun t =>
      (t.cpu.bc, t.cpu.sp, t.cpu.pc, t.cycles)) = some (0x771F#16, 0x0001#16, 0x0101#16, 12) := by
  decide +kernel

/-- `POP AF`. -/
theorem test_R235 :
    after (start [0xF1#8] (fun c => { c with sp := 0xCFFE#16 }) [(0xCFFE#16, 0xFF#8), (0xCFFF#16, 0x12#8)]) (fun t =>
      (t.cpu.a, t.cpu.f, t.cpu.sp, t.cpu.pc, t.cycles)) = some (0x12#8, 0xF0#8, 0xD000#16, 0x0101#16, 12) := by
  decide +kernel

/-- `ADD A,0x01`, `ADD A,(HL)`. -/
theorem test_R251 :
    after (start [0xC6#8, 0x01#8] (fun c => { c with a := 0xFF#8 }) []) (fun t => (t.cpu.a, t.cpu.f, t.cpu.pc,
      t.cycles)) = some (0x00#8, 0xB0#8, 0x0102#16, 8) ∧
    after (start [0x86#8] (fun c => { c with a := 0x0F#8, h := 0xC0#8, l := 0x00#8, f := 0xF0#8 }) [(0xC000#16,
      0x01#8)]) (fun t => (t.cpu.a, t.cpu.f, t.cpu.pc, t.cycles)) = some (0x10#8, 0x20#8, 0x0101#16, 8) := by
  decide +kernel

/-- `ADC A,B`, `ADC A,0xFF`. -/
theorem test_R252 :
    after (start [0x88#8] (fun c => { c with a := 0xFF#8, b := 0x00#8, f := 0x10#8 }) []) (fun t => (t.cpu.a, t.cpu.f,
      t.cpu.pc, t.cycles)) = some (0x00#8, 0xB0#8, 0x0101#16, 4) ∧
    after (start [0xCE#8, 0xFF#8] (fun c => { c with a := 0xFF#8, f := 0x10#8 }) []) (fun t => (t.cpu.a, t.cpu.f,
      t.cpu.pc, t.cycles)) = some (0xFF#8, 0x30#8, 0x0102#16, 8) := by
  decide +kernel

/-- `SUB A,B`, `SUB A,0x01`. -/
theorem test_R253 :
    after (start [0x90#8] (fun c => { c with a := 0x10#8, b := 0x01#8 }) []) (fun t => (t.cpu.a, t.cpu.f, t.cpu.pc,
      t.cycles)) = some (0x0F#8, 0x60#8, 0x0101#16, 4) ∧
    after (start [0xD6#8, 0x01#8] (fun c => { c with a := 0x00#8 }) []) (fun t => (t.cpu.a, t.cpu.f, t.cpu.pc,
      t.cycles)) = some (0xFF#8, 0x70#8, 0x0102#16, 8) := by
  decide +kernel

/-- `SBC A,0xFF`, `SBC A,0x0F`. -/
theorem test_R254 :
    after (start [0xDE#8, 0xFF#8] (fun c => { c with a := 0x00#8, f := 0x10#8 }) []) (fun t => (t.cpu.a, t.cpu.f,
      t.cpu.pc, t.cycles)) = some (0x00#8, 0xF0#8, 0x0102#16, 8) ∧
    after (start [0xDE#8, 0x0F#8] (fun c => { c with a := 0x10#8, f := 0x10#8 }) []) (fun t => (t.cpu.a, t.cpu.f,
      t.cpu.pc, t.cycles)) = some (0x00#8, 0xE0#8, 0x0102#16, 8) := by
  decide +kernel

/-- `AND A,0x0F`, `AND A,B`. -/
theorem test_R255 :
    after (start [0xE6#8, 0x0F#8] (fun c => { c with a := 0xF0#8 }) []) (fun t => (t.cpu.a, t.cpu.f, t.cpu.pc,
      t.cycles)) = some (0x00#8, 0xA0#8, 0x0102#16, 8) ∧
    after (start [0xA0#8] (fun c => { c with a := 0x5A#8, b := 0x3C#8, f := 0x10#8 }) []) (fun t => (t.cpu.a, t.cpu.f,
      t.cpu.pc, t.cycles)) = some (0x18#8, 0x20#8, 0x0101#16, 4) := by
  decide +kernel

/-- `XOR A,A`, `XOR A,0xFF`. -/
theorem test_R256 :
    after (start [0xAF#8] (fun c => { c with a := 0x5A#8, f := 0xF0#8 }) []) (fun t => (t.cpu.a, t.cpu.f, t.cpu.pc,
      t.cycles)) = some (0x00#8, 0x80#8, 0x0101#16, 4) ∧
    after (start [0xEE#8, 0xFF#8] (fun c => { c with a := 0x0F#8 }) []) (fun t => (t.cpu.a, t.cpu.f, t.cpu.pc,
      t.cycles)) = some (0xF0#8, 0x00#8, 0x0102#16, 8) := by
  decide +kernel

/-- `OR A,B`, `OR A,0x80`. -/
theorem test_R257 :
    after (start [0xB0#8] (fun c => { c with a := 0x00#8, b := 0x00#8, f := 0xF0#8 }) []) (fun t => (t.cpu.a, t.cpu.f,
      t.cpu.pc, t.cycles)) = some (0x00#8, 0x80#8, 0x0101#16, 4) ∧
    after (start [0xF6#8, 0x80#8] (fun c => { c with a := 0x01#8 }) []) (fun t => (t.cpu.a, t.cpu.f, t.cpu.pc,
      t.cycles)) = some (0x81#8, 0x00#8, 0x0102#16, 8) := by
  decide +kernel

/-- `CP A,0x3A`, `CP A,B`. -/
theorem test_R258 :
    after (start [0xFE#8, 0x3A#8] (fun c => { c with a := 0x3A#8 }) []) (fun t => (t.cpu.a, t.cpu.f, t.cpu.pc,
      t.cycles)) = some (0x3A#8, 0xC0#8, 0x0102#16, 8) ∧
    after (start [0xB8#8] (fun c => { c with a := 0x10#8, b := 0x20#8 }) []) (fun t => (t.cpu.a, t.cpu.f, t.cpu.pc,
      t.cycles)) = some (0x10#8, 0x50#8, 0x0101#16, 4) := by
  decide +kernel

/-- `INC B`, `INC A`. -/
theorem test_R260 :
    after (start [0x04#8] (fun c => { c with b := 0xFF#8, f := 0x10#8 }) []) (fun t => (t.cpu.b, t.cpu.f, t.cpu.pc,
      t.cycles)) = some (0x00#8, 0xB0#8, 0x0101#16, 4) ∧
    after (start [0x3C#8] (fun c => { c with a := 0x0F#8 }) []) (fun t => (t.cpu.a, t.cpu.f, t.cpu.pc, t.cycles)) = some
      (0x10#8, 0x20#8, 0x0101#16, 4) := by
  decide +kernel

/-- `INC (HL)`. -/
theorem test_R261 :
    after (start [0x34#8] (fun c => { c with h := 0xC0#8, l := 0x00#8 }) [(0xC000#16, 0x7F#8)]) (fun t => (t.cpu.f,
      t.read 0xC000#16, t.cpu.pc, t.cycles)) = some (0x20#8, 0x80#8, 0x0101#16, 12) := by
  decide +kernel

/-- `DEC B`, `DEC A`. -/
theorem test_R262 :
    after (start [0x05#8] (fun c => { c with b := 0x01#8, f := 0x10#8 }) []) (fun t => (t.cpu.b, t.cpu.f, t.cpu.pc,
      t.cycles)) = some (0x00#8, 0xD0#8, 0x0101#16, 4) ∧
    after (start [0x3D#8] (fun c => { c with a := 0x00#8 }) []) (fun t => (t.cpu.a, t.cpu.f, t.cpu.pc, t.cycles)) = some
      (0xFF#8, 0x60#8, 0x0101#16, 4) := by
  decide +kernel

/-- `DEC (HL)`. -/
theorem test_R263 :
    after (start [0x35#8] (fun c => { c with h := 0xC0#8, l := 0x00#8 }) [(0xC000#16, 0x00#8)]) (fun t => (t.cpu.f,
      t.read 0xC000#16, t.cpu.pc, t.cycles)) = some (0x60#8, 0xFF#8, 0x0101#16, 12) := by
  decide +kernel

/-- `DAA`. -/
theorem test_R265 :
    after (start [0x27#8] (fun c => { c with a := 0x7D#8, f := 0x00#8 }) []) (fun t => (t.cpu.a, t.cpu.f, t.cpu.pc,
      t.cycles)) = some (0x83#8, 0x00#8, 0x0101#16, 4) ∧
    after (start [0x27#8] (fun c => { c with a := 0x00#8, f := 0x70#8 }) []) (fun t => (t.cpu.a, t.cpu.f, t.cpu.pc,
      t.cycles)) = some (0x9A#8, 0x50#8, 0x0101#16, 4) := by
  decide +kernel

/-- `CPL`. -/
theorem test_R266 :
    after (start [0x2F#8] (fun c => { c with a := 0x35#8, f := 0x90#8 }) []) (fun t => (t.cpu.a, t.cpu.f, t.cpu.pc,
      t.cycles)) = some (0xCA#8, 0xF0#8, 0x0101#16, 4) := by
  decide +kernel

/-- `SCF`. -/
theorem test_R267 :
    after (start [0x37#8] (fun c => { c with f := 0xE0#8 }) []) (fun t => (t.cpu.f, t.cpu.pc, t.cycles)) = some (0x90#8,
      0x0101#16, 4) := by
  decide +kernel

/-- `CCF`. -/
theorem test_R268 :
    after (start [0x3F#8] (fun c => { c with f := 0xF0#8 }) []) (fun t => (t.cpu.f, t.cpu.pc, t.cycles)) = some (0x80#8,
      0x0101#16, 4) ∧
    after (start [0x3F#8] (fun c => { c with f := 0x00#8 }) []) (fun t => (t.cpu.f, t.cpu.pc, t.cycles)) = some (0x10#8,
      0x0101#16, 4) := by
  decide +kernel

/-- `ADD HL,BC`, `ADD HL,SP`. -/
theorem test_R290 :
    after (start [0x09#8] (fun c => { c with h := 0x0F#8, l := 0xFF#8, b := 0x00#8, c := 0x01#8, f := 0x80#8 }) []) (fun
      t => (t.cpu.hl, t.cpu.f, t.cpu.pc, t.cycles)) = some (0x1000#16, 0xA0#8, 0x0101#16, 8) ∧
    after (start [0x39#8] (fun c => { c with h := 0xFF#8, l := 0xFF#8, sp := 0x0001#16, f := 0x80#8 }) []) (fun t =>
      (t.cpu.hl, t.cpu.f, t.cpu.pc, t.cycles)) = some (0x0000#16, 0xB0#8, 0x0101#16, 8) := by
  decide +kernel

/-- `INC BC`, `INC SP`. -/
theorem test_R291 :
    after (start [0x03#8] (fun c => { c with b := 0xFF#8, c := 0xFF#8, f := 0xF0#8 }) []) (fun t => (t.cpu.bc, t.cpu.f,
      t.cpu.pc, t.cycles)) = some (0x0000#16, 0xF0#8, 0x0101#16, 8) ∧
    after (start [0x33#8] (fun c => { c with sp := 0xFFFF#16 }) []) (fun t => (t.cpu.sp, t.cpu.f, t.cpu.pc, t.cycles)) =
      some (0x0000#16, 0x00#8, 0x0101#16, 8) := by
  decide +kernel

/-- `DEC BC`, `DEC HL`. -/
theorem test_R292 :
    after (start [0x0B#8] (fun c => { c with b := 0x00#8, c := 0x00#8, f := 0x00#8 }) []) (fun t => (t.cpu.bc, t.cpu.f,
      t.cpu.pc, t.cycles)) = some (0xFFFF#16, 0x00#8, 0x0101#16, 8) ∧
    after (start [0x2B#8] (fun c => { c with h := 0x10#8, l := 0x00#8 }) []) (fun t => (t.cpu.hl, t.cpu.pc, t.cycles)) =
      some (0x0FFF#16, 0x0101#16, 8) := by
  decide +kernel

/-- `ADD SP,-1`, `ADD SP,+8`. -/
theorem test_R293 :
    after (start [0xE8#8, 0xFF#8] (fun c => { c with sp := 0x0001#16 }) []) (fun t => (t.cpu.sp, t.cpu.f, t.cpu.pc,
      t.cycles)) = some (0x0000#16, 0x30#8, 0x0102#16, 16) ∧
    after (start [0xE8#8, 0x08#8] (fun c => { c with sp := 0x00F8#16 }) []) (fun t => (t.cpu.sp, t.cpu.f, t.cpu.pc,
      t.cycles)) = some (0x0100#16, 0x30#8, 0x0102#16, 16) := by
  decide +kernel

/-- `LD HL,SP+2`, `LD HL,SP+0`. -/
theorem test_R294 :
    after (start [0xF8#8, 0x02#8] (fun c => { c with sp := 0xFFFE#16 }) []) (fun t => (t.cpu.hl, t.cpu.sp, t.cpu.f,
      t.cpu.pc, t.cycles)) = some (0x0000#16, 0xFFFE#16, 0x30#8, 0x0102#16, 12) ∧
    after (start [0xF8#8, 0x00#8] (fun c => { c with sp := 0x1234#16, f := 0xF0#8 }) []) (fun t => (t.cpu.hl, t.cpu.f,
      t.cpu.pc, t.cycles)) = some (0x1234#16, 0x00#8, 0x0102#16, 12) := by
  decide +kernel

/-- `RLCA`. -/
theorem test_R300 :
    after (start [0x07#8] (fun c => { c with a := 0x85#8, f := 0xF0#8 }) []) (fun t => (t.cpu.a, t.cpu.f, t.cpu.pc,
      t.cycles)) = some (0x0B#8, 0x10#8, 0x0101#16, 4) ∧
    after (start [0x07#8] (fun c => { c with a := 0x00#8, f := 0xF0#8 }) []) (fun t => (t.cpu.a, t.cpu.f, t.cpu.pc,
      t.cycles)) = some (0x00#8, 0x00#8, 0x0101#16, 4) := by
  decide +kernel

/-- `RRCA`. -/
theorem test_R301 :
    after (start [0x0F#8] (fun c => { c with a := 0x01#8 }) []) (fun t => (t.cpu.a, t.cpu.f, t.cpu.pc, t.cycles)) = some
      (0x80#8, 0x10#8, 0x0101#16, 4) := by
  decide +kernel

/-- `RLA`. -/
theorem test_R302 :
    after (start [0x17#8] (fun c => { c with a := 0x80#8, f := 0x00#8 }) []) (fun t => (t.cpu.a, t.cpu.f, t.cpu.pc,
      t.cycles)) = some (0x00#8, 0x10#8, 0x0101#16, 4) ∧
    after (start [0x17#8] (fun c => { c with a := 0x00#8, f := 0x10#8 }) []) (fun t => (t.cpu.a, t.cpu.f, t.cpu.pc,
      t.cycles)) = some (0x01#8, 0x00#8, 0x0101#16, 4) := by
  decide +kernel

/-- `RRA`. -/
theorem test_R303 :
    after (start [0x1F#8] (fun c => { c with a := 0x01#8, f := 0x00#8 }) []) (fun t => (t.cpu.a, t.cpu.f, t.cpu.pc,
      t.cycles)) = some (0x00#8, 0x10#8, 0x0101#16, 4) ∧
    after (start [0x1F#8] (fun c => { c with a := 0x00#8, f := 0x10#8 }) []) (fun t => (t.cpu.a, t.cpu.f, t.cpu.pc,
      t.cycles)) = some (0x80#8, 0x00#8, 0x0101#16, 4) := by
  decide +kernel

/-- `RLC B`. -/
theorem test_R306 :
    after (start [0xCB#8, 0x00#8] (fun c => { c with b := 0x85#8, f := 0xF0#8 }) []) (fun t => (t.cpu.b, t.cpu.f,
      t.cpu.pc, t.cycles)) = some (0x0B#8, 0x10#8, 0x0102#16, 8) ∧
    after (start [0xCB#8, 0x00#8] (fun c => { c with b := 0x00#8 }) []) (fun t => (t.cpu.b, t.cpu.f, t.cpu.pc,
      t.cycles)) = some (0x00#8, 0x80#8, 0x0102#16, 8) := by
  decide +kernel

/-- `RRC C`. -/
theorem test_R307 :
    after (start [0xCB#8, 0x09#8] (fun c => { c with c := 0x01#8 }) []) (fun t => (t.cpu.c, t.cpu.f, t.cpu.pc,
      t.cycles)) = some (0x80#8, 0x10#8, 0x0102#16, 8) := by
  decide +kernel

/-- `RL D`. -/
theorem test_R308 :
    after (start [0xCB#8, 0x12#8] (fun c => { c with d := 0x80#8, f := 0x00#8 }) []) (fun t => (t.cpu.d, t.cpu.f,
      t.cpu.pc, t.cycles)) = some (0x00#8, 0x90#8, 0x0102#16, 8) ∧
    after (start [0xCB#8, 0x12#8] (fun c => { c with d := 0x80#8, f := 0x10#8 }) []) (fun t => (t.cpu.d, t.cpu.f,
      t.cpu.pc, t.cycles)) = some (0x01#8, 0x10#8, 0x0102#16, 8) := by
  decide +kernel

/-- `RR E`. -/
theorem test_R309 :
    after (start [0xCB#8, 0x1B#8] (fun c => { c with e := 0x01#8, f := 0x00#8 }) []) (fun t => (t.cpu.e, t.cpu.f,
      t.cpu.pc, t.cycles)) = some (0x00#8, 0x90#8, 0x0102#16, 8) ∧
    after (start [0xCB#8, 0x1B#8] (fun c => { c with e := 0x00#8, f := 0x10#8 }) []) (fun t => (t.cpu.e, t.cpu.f,
      t.cpu.pc, t.cycles)) = some (0x80#8, 0x00#8, 0x0102#16, 8) := by
  decide +kernel

/-- `SLA H`. -/
theorem test_R310 :
    after (start [0xCB#8, 0x24#8] (fun c => { c with h := 0x80#8 }) []) (fun t => (t.cpu.h, t.cpu.f, t.cpu.pc,
      t.cycles)) = some (0x00#8, 0x90#8, 0x0102#16, 8) ∧
    after (start [0xCB#8, 0x24#8] (fun c => { c with h := 0xFF#8 }) []) (fun t => (t.cpu.h, t.cpu.f, t.cpu.pc,
      t.cycles)) = some (0xFE#8, 0x10#8, 0x0102#16, 8) := by
  decide +kernel

/-- `SRA L`. -/
theorem test_R311 :
    after (start [0xCB#8, 0x2D#8] (fun c => { c with l := 0x81#8 }) []) (fun t => (t.cpu.l, t.cpu.f, t.cpu.pc,
      t.cycles)) = some (0xC0#8, 0x10#8, 0x0102#16, 8) ∧
    after (start [0xCB#8, 0x2D#8] (fun c => { c with l := 0x01#8 }) []) (fun t => (t.cpu.l, t.cpu.f, t.cpu.pc,
      t.cycles)) = some (0x00#8, 0x90#8, 0x0102#16, 8) := by
  decide +kernel

/-- `SWAP A`. -/
theorem test_R312 :
    after (start [0xCB#8, 0x37#8] (fun c => { c with a := 0xF1#8, f := 0xF0#8 }) []) (fun t => (t.cpu.a, t.cpu.f,
      t.cpu.pc, t.cycles)) = some (0x1F#8, 0x00#8, 0x0102#16, 8) ∧
    after (start [0xCB#8, 0x37#8] (fun c => { c with a := 0x00#8 }) []) (fun t => (t.cpu.a, t.cpu.f, t.cpu.pc,
      t.cycles)) = some (0x00#8, 0x80#8, 0x0102#16, 8) := by
  decide +kernel

/-- `SRL A`. -/
theorem test_R313 :
    after (start [0xCB#8, 0x3F#8] (fun c => { c with a := 0x81#8 }) []) (fun t => (t.cpu.a, t.cpu.f, t.cpu.pc,
      t.cycles)) = some (0x40#8, 0x10#8, 0x0102#16, 8) ∧
    after (start [0xCB#8, 0x3F#8] (fun c => { c with a := 0x01#8 }) []) (fun t => (t.cpu.a, t.cpu.f, t.cpu.pc,
      t.cycles)) = some (0x00#8, 0x90#8, 0x0102#16, 8) := by
  decide +kernel

/-- `BIT 0,A`, `BIT 3,(HL)`. -/
theorem test_R315 :
    after (start [0xCB#8, 0x47#8] (fun c => { c with a := 0xFE#8, f := 0x40#8 }) []) (fun t => (t.cpu.a, t.cpu.f,
      t.cpu.pc, t.cycles)) = some (0xFE#8, 0xA0#8, 0x0102#16, 8) ∧
    after (start [0xCB#8, 0x5E#8] (fun c => { c with h := 0xC0#8, l := 0x00#8, f := 0xD0#8 }) [(0xC000#16, 0x08#8)])
      (fun t => (t.cpu.f, t.read 0xC000#16, t.cpu.pc, t.cycles)) = some (0x30#8, 0x08#8, 0x0102#16, 12) := by
  decide +kernel

/-- `RES 0,A`, `RES 7,(HL)`. -/
theorem test_R316 :
    after (start [0xCB#8, 0x87#8] (fun c => { c with a := 0xFF#8, f := 0xF0#8 }) []) (fun t => (t.cpu.a, t.cpu.f,
      t.cpu.pc, t.cycles)) = some (0xFE#8, 0xF0#8, 0x0102#16, 8) ∧
    after (start [0xCB#8, 0xBE#8] (fun c => { c with h := 0xC0#8, l := 0x00#8 }) [(0xC000#16, 0xFF#8)]) (fun t =>
      (t.cpu.f, t.read 0xC000#16, t.cpu.pc, t.cycles)) = some (0x00#8, 0x7F#8, 0x0102#16, 16) := by
  decide +kernel

/-- `SET 7,B`, `SET 0,(HL)`. -/
theorem test_R317 :
    after (start [0xCB#8, 0xF8#8] (fun c => { c with b := 0x00#8 }) []) (fun t => (t.cpu.b, t.cpu.f, t.cpu.pc,
      t.cycles)) = some (0x80#8, 0x00#8, 0x0102#16, 8) ∧
    after (start [0xCB#8, 0xC6#8] (fun c => { c with h := 0xC0#8, l := 0x00#8 }) [(0xC000#16, 0x10#8)]) (fun t =>
      (t.cpu.f, t.read 0xC000#16, t.cpu.pc, t.cycles)) = some (0x00#8, 0x11#8, 0x0102#16, 16) := by
  decide +kernel

/-- `JP 0x0150`. -/
theorem test_R330 :
    after (start [0xC3#8, 0x50#8, 0x01#8] id []) (fun t => (t.cpu.pc, t.cycles)) = some (0x0150#16, 16) := by
  decide +kernel

/-- `JP NZ,0x0150`, `JP C,0x8000`. -/
theorem test_R331 :
    after (start [0xC2#8, 0x50#8, 0x01#8] (fun c => { c with f := 0x00#8 }) []) (fun t => (t.cpu.pc, t.cycles)) = some
      (0x0150#16, 16) ∧
    after (start [0xDA#8, 0x00#8, 0x80#8] (fun c => { c with f := 0x10#8 }) []) (fun t => (t.cpu.pc, t.cycles)) = some
      (0x8000#16, 16) := by
  decide +kernel

/-- `JP HL`. -/
theorem test_R332 :
    after (start [0xE9#8] (fun c => { c with h := 0xC0#8, l := 0x00#8 }) []) (fun t => (t.cpu.pc, t.cycles)) = some
      (0xC000#16, 4) := by
  decide +kernel

/-- `JR -2`, `JR -128`. -/
theorem test_R333 :
    after (start [0x18#8, 0xFE#8] id []) (fun t => (t.cpu.pc, t.cycles)) = some (0x0100#16, 12) ∧
    after (start [0x18#8, 0x80#8] id []) (fun t => (t.cpu.pc, t.cycles)) = some (0x0082#16, 12) := by
  decide +kernel

/-- `JR NC,-4`, `JR C,-4`. -/
theorem test_R334 :
    after (start [0x30#8, 0xFC#8] (fun c => { c with f := 0x00#8 }) []) (fun t => (t.cpu.pc, t.cycles)) = some
      (0x00FE#16, 12) ∧
    after (start [0x38#8, 0xFC#8] (fun c => { c with f := 0x00#8 }) []) (fun t => (t.cpu.pc, t.cycles)) = some
      (0x0102#16, 8) := by
  decide +kernel

/-- `CALL 0x0200`. -/
theorem test_R335 :
    after (start [0xCD#8, 0x00#8, 0x02#8] (fun c => { c with sp := 0xFFFE#16 }) []) (fun t => (t.cpu.pc, t.cpu.sp,
      t.read 0xFFFD#16, t.read 0xFFFC#16, t.cycles)) = some (0x0200#16, 0xFFFC#16, 0x01#8, 0x03#8, 24) := by
  decide +kernel

/-- `CALL NC,0x0200`. -/
theorem test_R336 :
    after (start [0xD4#8, 0x00#8, 0x02#8] (fun c => { c with sp := 0xD000#16, f := 0x00#8 }) []) (fun t => (t.cpu.pc,
      t.cpu.sp, t.read 0xCFFF#16, t.read 0xCFFE#16, t.cycles)) = some (0x0200#16, 0xCFFE#16, 0x01#8, 0x03#8, 24) := by
  decide +kernel

/-- `RET`. -/
theorem test_R337 :
    after (start [0xC9#8] (fun c => { c with sp := 0xCFFE#16 }) [(0xCFFE#16, 0x0A#8), (0xCFFF#16, 0x01#8)]) (fun t =>
      (t.cpu.pc, t.cpu.sp, t.cycles)) = some (0x010A#16, 0xD000#16, 16) := by
  decide +kernel

/-- `RET C`. -/
theorem test_R338 :
    after (start [0xD8#8] (fun c => { c with sp := 0xCFFE#16, f := 0x10#8 }) [(0xCFFE#16, 0x0A#8), (0xCFFF#16, 0x01#8)])
      (fun t => (t.cpu.pc, t.cpu.sp, t.cycles)) = some (0x010A#16, 0xD000#16, 20) := by
  decide +kernel

/-- `RETI`. -/
theorem test_R339 :
    after (start [0xD9#8] (fun c => { c with sp := 0xCFFE#16 }) [(0xCFFE#16, 0x0A#8), (0xCFFF#16, 0x01#8)]) (fun t =>
      (t.cpu.pc, t.cpu.sp, t.cpu.ime, t.cycles)) = some (0x010A#16, 0xD000#16, true, 16) := by
  decide +kernel

/-- `RST 0x28`, `RST 0x00`. -/
theorem test_R345 :
    after (start [0xEF#8] (fun c => { c with sp := 0xFFFE#16 }) []) (fun t => (t.cpu.pc, t.cpu.sp, t.read 0xFFFD#16,
      t.read 0xFFFC#16, t.cycles)) = some (0x0028#16, 0xFFFC#16, 0x01#8, 0x01#8, 16) ∧
    after (start [0xC7#8] (fun c => { c with sp := 0xD000#16 }) []) (fun t => (t.cpu.pc, t.cpu.sp, t.read 0xCFFF#16,
      t.read 0xCFFE#16, t.cycles)) = some (0x0000#16, 0xCFFE#16, 0x01#8, 0x01#8, 16) := by
  decide +kernel
/-! ### System instructions, the step, interrupts (95_test_vectors.md 2.7) -/

/-- V-SYS-1, V-SYS-2, V-SYS-10. -/
theorem test_nop_stop_prefix :
    after (start [0x00#8] id []) (fun t => (t.cycles, t.cpu.pc, t.timer.divSub, t.ppu.acc)) = some (4, 0x0101#16, 4, 4) ∧
    after (start [0x10#8, 0x3C#8] id []) (fun t => (t.cycles, t.cpu.pc, t.cpu.a, t.cpu.halted)) =
      some (4, 0x0102#16, 0#8, false) ∧
    after (start [0xCB#8, 0x37#8] (fun c => { c with a := 0xF1#8 }) []) (fun t => (t.cycles, t.cpu.pc, t.cpu.a)) =
      some (8, 0x0102#16, 0x1F#8) := by
  decide +kernel

/-- V-SYS-4, and the first step of V-SYS-5. -/
theorem test_di_ei :
    after (start [0xF3#8] (fun c => { c with ime := true }) [(0xFF0F#16, 0x01#8), (0xFFFF#16, 0x01#8)])
      (fun t => (t.cpu.ime, t.cpu.pc, t.irq.flags)) = some (false, 0x0101#16, 1#5) ∧
    after (start [0xFB#8] id [(0xFF0F#16, 0x01#8), (0xFFFF#16, 0x01#8)])
      (fun t => (t.cpu.ime, t.cpu.imePending, t.cpu.pc)) = some (false, true, 0x0101#16) := by
  decide +kernel

/-- V-SYS-5, the second step: the delayed enable, then the dispatch. -/
theorem test_delayed_enable_dispatches :
    after (start [0x00#8, 0x00#8] (fun c => { c with pc := 0x0101#16, imePending := true })
      [(0xFF0F#16, 0x01#8), (0xFFFF#16, 0x01#8)])
      (fun t => ((t.cpu.sp, t.read 0xFFFD#16, t.read 0xFFFC#16), t.cpu.pc, t.cpu.ime, t.irq.flags, t.carryCycles)) =
      some ((0xFFFC#16, 0x01#8, 0x02#8), 0x0040#16, false, 0#5, 20) := by
  decide +kernel

/-- V-INT-2, V-INT-7. -/
theorem test_dispatch :
    after (start [0x00#8] (fun c => { c with ime := true }) [(0xFF0F#16, 0x1F#8), (0xFFFF#16, 0x18#8)])
      (fun t => (t.cpu.pc, t.irq.flags)) = some (0x0058#16, 0x17#5) ∧
    after (start [0xD9#8] (fun c => { c with sp := 0xFFFC#16 })
      [(0xFFFC#16, 0x0E#8), (0xFFFD#16, 0x01#8), (0xFF0F#16, 0x04#8), (0xFFFF#16, 0x05#8)])
      (fun t => ((t.cpu.pc, t.cpu.sp, t.read 0xFFFC#16), t.irq.flags, t.cpu.ime, t.cycles, t.carryCycles)) =
      some ((0x0050#16, 0xFFFC#16, 0x0E#8), 0#5, false, 16, 20) := by
  decide +kernel

/-- Program P5, steps 1, 2 and 5: `HALT`, a wait, and the wake by a trigger bit that is not enabled. -/
theorem test_halt :
    after (start [0x76#8] id []) (fun t => (t.cpu.halted, t.cpu.pc, t.cycles)) = some (true, 0x0101#16, 4) ∧
    after (start [0x76#8, 0x3C#8] (fun c => { c with halted := true, pc := 0x0101#16 }) [])
      (fun t => (t.cpu.halted, t.cpu.pc, t.cycles)) = some (true, 0x0101#16, 4) ∧
    after (start [0x76#8, 0x3C#8] (fun c => { c with a := 0x01#8, halted := true, pc := 0x0101#16 })
      [(0xFF0F#16, 0x04#8)]) (fun t => (t.cpu.halted, t.cpu.a, t.cpu.pc, t.irq.flags)) =
      some (false, 0x02#8, 0x0102#16, 4#5) := by
  decide +kernel

/-- V-SYS-9, for every illegal opcode; program P6 for what a Faulted machine does. -/
theorem test_illegal :
    (∀ o : Fin 11, after (start [([.d3, .db, .dd, .e3, .e4, .eb, .ec, .ed, .f4, .fc, .fd] : List IllegalOp)[o].opcode] id [])
      (fun t => (t.cpu.faulted.map FaultRecord.address, t.cpu.pc, t.timer.divSub, t.ppu.acc)) =
      some (some 0x0100#16, 0x0101#16, 0, 0)) ∧
    step (start [] (fun c => { c with faulted := some { opcode := 0xD3#8, address := 0x0101#16 } }) []) =
      .fault (.illegalInstruction 0xD3#8 0x0101#16) := by
  exact ⟨by decide +kernel, rfl⟩

/-- V-INT-6: a press raises the joypad trigger (R398). -/
theorem test_button : (State.reset.setButton .a true).irq.flags = 0x10#5 ∧
    (State.reset.setButton .a true).read 0xFF00#16 = 0xCE#8 := by
  decide +kernel

/-! ### Timer (95_test_vectors.md 2.8) -/

/-- V-TIM-1 (R392), its last two ticks; V-TIM-7. -/
theorem test_timer :
    (let s := { State.reset with timer := { State.reset.timer with tac := 5#3, tima := 0xFF#8, tma := 0x80#8 } }
     let t := s.timerTick 24
     (t.timer.tima, t.irq.flags, t.timer.timaSub, (t.timerTick 8).timer.tima) = (0x80#8, 4#5, 8, 0x81#8)) ∧
    (let s := { State.reset with timer := { State.reset.timer with div := 0xFF#8, divSub := 16380 } }
     ((s.timerTick 12).timer.div, (s.timerTick 12).timer.divSub, (s.timerTick 12).irq.flags) = (0#8, 8, 0#5)) := by
  decide +kernel

/-- V-TIM-9: a write of TAC inside the step. -/
theorem test_timer_write :
    after { start [0xE0#8, 0x07#8] (fun c => { c with a := 0x05#8 }) [] with
      timer := { State.reset.timer with tac := 4#3, timaSub := 1000 } }
      (fun t => (t.timer.tac, t.timer.tima, t.timer.timaSub)) = some (5#3, 0x3F#8, 4) := by
  decide +kernel

/-! ### Address space and bank controllers (95_test_vectors.md 2.9, 2.10) -/

/-- V-MEM-2, V-MEM-3, V-MEM-6, V-MEM-7, V-MEM-9, V-MEM-14. -/
theorem test_memory :
    ((writes State.reset [(0xFDFF#16, 0x22#8)]).read 0xDDFF#16, (writes State.reset [(0xFEA0#16, 0x55#8)]).read 0xFEA0#16,
      (writes State.reset [(0xFF0F#16, 0xFF#8)]).read 0xFF0F#16, (writes State.reset [(0xFF41#16, 0xFF#8)]).read 0xFF41#16,
      (writes State.reset [(0xFF70#16, 0x03#8)]).read 0xFF70#16, (writes State.reset [(0xFF10#16, 0x80#8)]).read 0xFF10#16) =
    (0x22#8, 0xFF#8, 0xFF#8, 0xFE#8, 0xFF#8, 0x80#8) := by
  decide +kernel

/-- V-MEM-10, V-MEM-11: the banks of CGB mode. -/
theorem test_cgb_banks :
    (let s := writes (cgb State.reset) [(0xD000#16, 0xAA#8), (0xFF70#16, 0x02#8)]
     (s.read 0xD000#16, (s.write 0xFF70#16 0x01#8).read 0xD000#16, (s.write 0xFF70#16 0x01#8).read 0xFF70#16) =
      (0x00#8, 0xAA#8, 0xF9#8)) ∧
    (let s := writes (cgb State.reset) [(0x8000#16, 0x11#8), (0xFF4F#16, 0xFF#8)]
     (s.read 0xFF4F#16, s.read 0x8000#16, (writes s [(0x8000#16, 0x22#8), (0xFF4F#16, 0x00#8)]).read 0x8000#16) =
      (0xFF#8, 0x00#8, 0x11#8)) := by
  decide +kernel

/-- V-MBC-3, V-MBC-4, V-MBC-9, V-MBC-11, V-MBC-12, V-MBC-13. -/
theorem test_rom_banks :
    ([[(0x2000#16, 0xE5#8)], [(0x2000#16, 0x00#8), (0x4000#16, 0x01#8)],
      [(0x2000#16, 0x03#8), (0x4000#16, 0x01#8), (0x6000#16, 0x01#8)]].map fun l =>
        let t := writes (withCart .mbc1 64 4) l; effRomBank t.cart t.mbc) = [5, 33, 3] ∧
    ([[(0x2000#16, 0x00#8)], [(0x2000#16, 0x20#8)], [(0x2000#16, 0xFF#8)]].map fun l =>
        let t := writes (withCart .mbc3 128 4) l; effRomBank t.cart t.mbc) = [1, 0x20, 0x7F] ∧
    ([[], [(0x2000#16, 0x00#8)], [(0x3000#16, 0x01#8), (0x2000#16, 0x02#8)]].map fun l =>
        let t := writes (withCart .mbc5 512 4) l; effRomBank t.cart t.mbc) = [1, 0, 0x102] := by
  decide +kernel

/-- V-MBC-8, V-MBC-10, V-MBC-15: external RAM, the clock, MBC2's nibbles. -/
theorem test_external_ram :
    (let s := writes (withCart .mbc1 64 4) [(0x0000#16, 0x0A#8), (0xA000#16, 0x55#8), (0x4000#16, 0x02#8)]
     (s.read 0xA000#16, (s.write 0x6000#16 0x01#8).read 0xA000#16) = (0x55#8, 0x00#8)) ∧
    (let s := writes (withCart .mbc3 128 4) [(0x0000#16, 0x0A#8), (0x4000#16, 0x08#8), (0xA000#16, 0x3B#8)]
     (s.read 0xBFFF#16, (s.write 0x4000#16 0x05#8).read 0xA000#16, (s.write 0x4000#16 0x0C#8).read 0xA000#16) =
      (0x3B#8, 0xFF#8, 0x00#8)) ∧
    (let s := writes (withCart .mbc2 16 0) [(0x0000#16, 0x0A#8), (0x2100#16, 0x00#8), (0xA000#16, 0xAB#8)]
     (effRomBank s.cart s.mbc, s.read 0xA200#16, s.read 0xA1FF#16) = (1, 0xFB#8, 0xF0#8)) := by
  decide +kernel

/-- V-MBC-16: the header's tables; an image that is too short is no cartridge (R127). -/
theorem test_header :
    (romBanksOf 0x52#8, romBanksOf 0x54#8, romBanksOf 0x09#8, ramBanksOf 0x05#8, (mapperOf 0x08#8).isSome) =
      (some 72, some 96, none, none, false) ∧
    loadCartridge [0x00#8] = .error .noHeader := by
  exact ⟨by decide +kernel, rfl⟩

/-! ### PPU and DMA (95_test_vectors.md 2.11, 2.12) -/

/-- The state of R455. -/
def twoSprites : State :=
  { State.reset with
    mem := { State.reset.mem with
      vram := [(0x00, 0x3C#8), (0x01, 0x7E#8), (0x10, 0xFF#8)]
      oam := [(0, 16#8), (1, 10#8), (2, 1#8), (4, 16#8), (5, 12#8), (6, 1#8), (7, 0x80#8)] }
    ppu := { State.reset.ppu with lcdc := 0x93#8, bgp := 0xE4#8, obp0 := 0xE4#8 } }

/-- V-PPU-5 (R455). -/
theorem test_two_sprites :
    (lineOf twoSprites 0).take 16 = shades [0, 2, 1, 1, 1, 1, 1, 1, 1, 1, 3, 3, 3, 3, 2, 0] ∧
    ((twoSprites.renderScanline 0).ppu.tag.take 16).map Tag.rank = [1, 1, 4, 4, 4, 4, 4, 4, 4, 4, 1, 1, 1, 1, 1, 1] := by
  decide +kernel

/-- V-PPU-9, V-PPU-10: signed tile numbers; a window that begins at column 8. -/
theorem test_tiles_and_window :
    (lineOf { State.reset with
      mem := { State.reset.mem with vram := [(0x0800, 0xFF#8), (0x0801, 0xFF#8), (0x1800, 0x80#8)] }
      ppu := { State.reset.ppu with lcdc := 0x81#8, bgp := 0xE4#8 } } 0).take 9 = shades [3, 3, 3, 3, 3, 3, 3, 3, 0] ∧
    ({ State.reset with ppu := { State.reset.ppu with lcdc := 0xB1#8, wx := 0x0F#8 } }.renderScanline 0).ppu.tag =
      List.replicate 8 .background ++ List.replicate 152 .window := by
  decide +kernel

/-- V-PPU-12: 8 by 16 sprites, and their vertical flip. -/
theorem test_tall_sprite :
    (let s (attrs : Byte) : State := { State.reset with
      mem := { State.reset.mem with
        vram := [(0x40, 0x80#8), (0x5F, 0x80#8)], oam := [(0, 16#8), (1, 8#8), (2, 5#8)].filter (·.1 < 4) |>.append
          (if attrs = 0#8 then [] else [(3, attrs)]) }
      ppu := { State.reset.ppu with lcdc := 0x96#8, obp0 := 0xE4#8 } }
     ((lineOf (s 0x00#8) 0).take 2, (lineOf (s 0x00#8) 15).take 2, (lineOf (s 0x40#8) 0).take 2,
      (lineOf (s 0x40#8) 15).take 2) = (shades [1, 0], shades [2, 0], shades [2, 0], shades [1, 0])) := by
  decide +kernel

/-- V-PPU-14 (R450). -/
theorem test_colours :
    PalettePort.colour { cells := [(0, 0xFF#8), (1, 0x7F#8)], index := 0#6, autoInc := false } 0#3 0#2 =
      .rgb 255#8 255#8 255#8 ∧
    PalettePort.colour { cells := [(0, 0x10#8), (1, 0x42#8)], index := 0#6, autoInc := false } 0#3 0#2 =
      .rgb 132#8 132#8 132#8 := by
  decide +kernel

/-- V-PPU-4: the coincidence and the modes of STAT. -/
theorem test_stat :
    (let t := (writes State.reset [(0xFF45#16, 0x02#8), (0xFF41#16, 0x40#8)]).ppuTick 912
     (t.ppu.ly, t.irq.flags, t.read 0xFF41#16, (t.ppuTick 84).read 0xFF41#16) = (2#8, 2#5, 0xC6#8, 0xC7#8)) := by
  decide +kernel

/-- V-DMA-1, V-DMA-2 (its step), V-DMA-3 and V-DMA-4. -/
theorem test_dma :
    (let t := (writes State.reset [(0xC100#16, 0x07#8), (0xC19F#16, 0x9F#8)]).write 0xFF46#16 0xC1#8
     (t.read 0xFE00#16, t.read 0xFE9F#16, t.read 0xFF46#16) = (0x07#8, 0x9F#8, 0xC1#8)) ∧
    after (writes (cgb (start [0xE0#8, 0x55#8] (fun c => { c with a := 0x01#8 }) [(0xC01F#16, 0x20#8)]))
      [(0xFF51#16, 0xC0#8), (0xFF52#16, 0x05#8), (0xFF53#16, 0x88#8), (0xFF54#16, 0x1F#8)])
      (fun t => (t.cycles, t.hdma.src, t.hdma.dst, t.read 0xFF55#16, t.read 0x882F#16)) =
      some (28, 0xC020#16, 0x8830#16, 0xFF#8, 0x20#8) ∧
    (let s := writes (cgb State.reset) [(0xFF51#16, 0xC0#8), (0xFF55#16, 0x83#8)]
     let t := s.hblankEvent
     (s.read 0xFF55#16, t.read 0xFF55#16, t.carryCycles, (t.write 0xFF55#16 0x00#8).read 0xFF55#16) =
      (0x03#8, 0x02#8, 8, 0x82#8)) := by
  decide +kernel

/-! ### Every hypothesis of a statement is met -/

/-- A result that is a next state. -/
def isNext : Result → Bool
  | .next _ => true
  | .fault _ => false
  | .refused _ => false

theorem exists_next {r : Result} (h : isNext r = true) : ∃ t, r = .next t := by
  cases r with
  | next t => exact ⟨t, rfl⟩
  | fault _ => exact absurd h Bool.false_ne_true
  | refused _ => exact absurd h Bool.false_ne_true

theorem start_memoryOk : (start [0x00#8] id []).MemoryOk :=
  ⟨Memory.wf_nil, Memory.wf_nil, Memory.wf_nil, Memory.wf_nil, Memory.wf_nil, Memory.wf_nil, Memory.wf_nil,
    Memory.wf_nil, Memory.wf_nil⟩

theorem witness_EncodeThenDecode : (Instr.ld_HL_n16 0xFFFF#16).wf = true ∧ (Instr.set_7_A).wf = true := by decide

theorem witness_DecodeThenEncode : decode [0xCB#8, 0xFF#8, 0xCB#8] = .ok (.set_7_A, [0xCB#8]) := rfl

/-- Of `RegisterFile`, `LoadsIntoRegisters`, `StoresThroughHL` and the forms on `(HL)` of the other families. -/
theorem witness_RegisterFile : R8.a ≠ .atHL ∧ R8.b ≠ .a ∧ R8.b ≠ .atHL ∧ R8.atHL = .atHL := by decide

/-- Of the clauses of `StoresAt`: a cell, a quiet place that is none, an address that leads elsewhere. -/
theorem witness_StoresThroughHL :
    (State.reset.route 0xC000#16).isCell = true ∧ (State.reset.route 0xFF05#16).quiet = true ∧
    State.reset.route 0xDFFF#16 ≠ State.reset.route 0xC000#16 ∧ (start [0x00#8] id []).MemoryOk :=
  ⟨by decide +kernel, by decide +kernel, by decide +kernel, start_memoryOk⟩

/-- Of the clauses of `StoresTwo`, for the stack after reset. -/
theorem witness_Pushes :
    (State.reset.route 0xFFFD#16).isCell = true ∧ (State.reset.route 0xFFFC#16).isCell = true ∧
    State.reset.route 0xFFFE#16 ≠ State.reset.route 0xFFFD#16 ∧ State.reset.route 0xFFFE#16 ≠ State.reset.route 0xFFFC#16 := by
  decide +kernel

theorem witness_DecimalAdditionIsRight :
    (let s := start [] (fun c => { c with a := 0x99#8, b := 0x99#8 }) []
     s.cpu.a.toNat = 99 / 10 * 16 + 99 % 10 ∧ s.cpu.b.toNat = 99 / 10 * 16 + 99 % 10 ∧
     isNext (exec .add_A_B s) = true ∧
     ∀ t : State, isNext (exec .daa t) = true) := by
  exact ⟨rfl, rfl, rfl, fun _ => rfl⟩

/-- Of `ConditionalJumps`, `ConditionalCalls`, `ConditionalReturns`: each condition holds and fails somewhere. -/
theorem witness_ConditionalJumps :
    (CondIs .nz 0x70#8 ∧ ¬CondIs .nz 0x80#8) ∧ (CondIs .z 0x80#8 ∧ ¬CondIs .z 0x70#8) ∧
    (CondIs .nc 0xE0#8 ∧ ¬CondIs .nc 0x10#8) ∧ (CondIs .c 0x10#8 ∧ ¬CondIs .c 0xE0#8) := by
  unfold CondIs
  decide

theorem witness_IllegalStepFaults :
    (let s := start [IllegalOp.d3.opcode] id []
     s.cpu.faulted = none ∧ s.cpu.halted = false ∧ s.read s.cpu.pc = IllegalOp.d3.opcode) ∧
    (let s := start [IllegalOp.fd.opcode] (fun c => { c with halted := true }) [(0xFF0F#16, 0x10#8)]
     s.cpu.faulted = none ∧ s.irq.flags ≠ 0#5 ∧ s.read s.cpu.pc = IllegalOp.fd.opcode) := by
  decide +kernel

theorem witness_StepRunsTheInstruction :
    (let s := start [0x3E#8, 0x12#8] id []
     s.cpu.faulted = none ∧ s.cpu.halted = false ∧ (Instr.ld_A_n8 0x12#8).wf = true ∧
     (encode (.ld_A_n8 0x12#8)).length = 2 ∧ s.read (s.cpu.pc + BitVec.ofNat 16 0) = 0x3E#8 ∧
     s.read (s.cpu.pc + BitVec.ofNat 16 1) = 0x12#8) := by
  decide +kernel

theorem witness_HaltWaits :
    (let s := start [0x00#8] (fun c => { c with halted := true }) []
     s.cpu.faulted = none ∧ s.cpu.halted = true ∧ s.irq.flags = 0#5) ∧
    (let s := start [0x00#8] (fun c => { c with halted := true }) [(0xFF0F#16, 0x10#8)]
     s.cpu.faulted = none ∧ s.cpu.halted = true ∧ s.irq.flags ≠ 0#5) := by
  decide +kernel

theorem witness_EnableIsDelayed :
    (let s := start [0xFB#8] id []
     s.cpu.faulted = none ∧ s.cpu.halted = false ∧ s.cpu.ime = false ∧ s.cpu.imePending = false ∧ s.fetched = .ei) ∧
    (let s := start [0x00#8] (fun c => { c with imePending := true }) []
     s.cpu.faulted = none ∧ s.cpu.halted = false ∧ Instr.nop.wf = true ∧ Instr.nop ≠ .di ∧ s.cpu.imePending = true ∧
     s.fetched = .nop ∧ ofNext s.cpuStep (·.cpu.faulted) = some none) := by
  decide +kernel

theorem witness_InterruptsDispatch :
    (let s := start [] id []
     s.cpu.ime = false ∧ s.irq.flags &&& s.irq.enable.extractLsb' 0 5 = 0#5) ∧
    (∀ k : Fin 5, let s := start [] (fun c => { c with ime := true }) [(0xFF0F#16, (1#8 <<< k.val) ||| 0x10#8), (0xFFFF#16, 0x1F#8)]
      s.cpu.ime = true ∧ (s.irq.flags &&& s.irq.enable.extractLsb' 0 5).getLsbD k.val = true ∧
      ∀ j : Fin 5, j < k → (s.irq.flags &&& s.irq.enable.extractLsb' 0 5).getLsbD j.val = false) := by
  decide +kernel

theorem witness_OnlyRetiAndEiEnable :
    (let s := start [0xD9#8] id []
     s.cpu.ime = false ∧ s.fetched = .reti ∧ after s (·.cpu.ime) = some true) ∧
    (let s := start [0x00#8] (fun c => { c with imePending := true }) []
     s.cpu.ime = false ∧ after s (·.cpu.ime) = some true) := by
  decide +kernel

/-- Every clause: a period above 0, and TIMA enabled and not. -/
theorem witness_TimerLosesNoCycle :
    0 < State.reset.config.divPeriod ∧ State.reset.timer.tac.getLsbD 2 = false ∧
    (State.reset.write 0xFF07#16 0x05#8).timer.tac.getLsbD 2 = true := by
  decide +kernel

/-- Both clauses, at the last count before the overflow, at the overflow, and at the last one before a second. -/
theorem witness_TimaOverflows :
    (let s := { State.reset with timer := { State.reset.timer with tac := 5#3, tima := 0xFE#8, tma := 0x80#8 } }
     s.timer.tac.getLsbD 2 = true ∧
     (s.timer.timaSub + 16) / timaPeriod (s.timer.tac.extractLsb' 0 2) + s.timer.tima.toNat = 255 ∧
     (s.timer.timaSub + 32) / timaPeriod (s.timer.tac.extractLsb' 0 2) + s.timer.tima.toNat = 256 ∧
     (s.timer.timaSub + 2064) / timaPeriod (s.timer.tac.extractLsb' 0 2) + s.timer.tima.toNat + s.timer.tma.toNat = 511) := by
  decide +kernel

/-- The last line and the last cycle of it. -/
theorem witness_LinesComplete : { State.reset with ppu := { State.reset.ppu with ly := 153#8, acc := 455 } }.PpuOk := by
  decide +kernel

/-- A tick one cycle short of a scanline, and one that completes it. The last line; the line before V-Blank, with the display
on and off; a coincidence; a line that is rendered, and one that moves a chunk; accumulators 456 and 911. -/
theorem witness_LineRaises :
    State.reset.ppu.acc + 455 < 456 ∧ 456 ≤ State.reset.ppu.acc + 456 ∧
    (let s := { State.reset with ppu := { State.reset.ppu with ly := 153#8, acc := 456 } }
     s.ppu.ly.toNat < 154 ∧ 456 ≤ s.ppu.acc ∧ 144 ≤ s.ppu.ly.toNat) ∧
    (let s := { State.reset with ppu := { State.reset.ppu with ly := 143#8, acc := 911, lyc := 144#8 } }
     s.ppu.ly.toNat < 154 ∧ 456 ≤ s.ppu.acc ∧ (s.ppu.ly.toNat + 1) % 154 = 144 ∧
     (s.ppu.ly.toNat + 1) % 154 = s.ppu.lyc.toNat ∧ s.ppu.lcdc.getLsbD 7 = true ∧ s.cart.cgbMode = false) ∧
    (let s := { State.reset with ppu := { State.reset.ppu with ly := 142#8, acc := 456, lcdc := 0x11#8 } }
     s.ppu.ly.toNat < 154 ∧ 456 ≤ s.ppu.acc ∧ (s.ppu.ly.toNat + 1) % 154 ≠ 144 ∧
     ¬((s.ppu.ly.toNat + 1) % 154 < 144 ∧ s.ppu.lcdc.getLsbD 7 = true)) ∧
    (let s := (cgb { State.reset with ppu := { State.reset.ppu with ly := 142#8, acc := 911 } }).write 0xFF55#16 0x80#8
     s.ppu.ly.toNat < 154 ∧ 456 ≤ s.ppu.acc ∧ s.ppu.ly.toNat < 144 ∧ (s.ppu.ly.toNat + 1) % 154 < 144 ∧
     s.ppu.lcdc.getLsbD 7 = true ∧ s.cart.cgbMode = true ∧ s.hdma.active = true) := by
  decide +kernel

/-- The last row and the last column; a line with fewer than ten sprites; a column that shows a sprite behind the
background. -/
theorem witness_ScanlineComposes :
    143 < State.reset.ppu.raster.length ∧ (142 : Nat) ≠ 143 ∧ 159 < 160 ∧ twoSprites.sprite 0 ∈ twoSprites.lineSprites 0 ∧
    (twoSprites.lineSprites 0).length < 10 ∧ 0 + 16 < (twoSprites.sprite 0).y.toNat + 8 ∧
    ([twoSprites.sprite 1].foldl (twoSprites.drawSprite 0 8)
      { pixel := .shade 0#2, tag := .background, bgIdx := 0#2 }).tag = .spriteBehind := by
  decide +kernel

/-- Eleven sprites on line 0. -/
def elevenSprites : State :=
  { State.reset with
    mem := { State.reset.mem with
      oam := (List.range 11).flatMap fun i => [(4 * i, 16#8), (4 * i + 1, BitVec.ofNat 8 (8 + i))] } }

/-- The same statement (R440, D34): of eleven entries on a line, the tenth has nine before it and is drawn, the eleventh has
ten and is not. -/
theorem witness_ScanlineComposes_eleven :
    (OnLine elevenSprites 0 (elevenSprites.sprite 9) ∧
      (List.range 9).countP (fun j => decide (OnLine elevenSprites 0 (elevenSprites.sprite j))) = 9 ∧
      elevenSprites.sprite 9 ∈ elevenSprites.lineSprites 0) ∧
    (OnLine elevenSprites 0 (elevenSprites.sprite 10) ∧
      (List.range 10).countP (fun j => decide (OnLine elevenSprites 0 (elevenSprites.sprite j))) = 10 ∧
      elevenSprites.sprite 10 ∉ elevenSprites.lineSprites 0) := by
  decide +kernel

/-- The same statement: an opaque pixel of a sprite above the background, and one of a sprite behind it over colour 0. -/
theorem witness_ScanlineComposes_opaque :
    (let o := twoSprites.sprite 0
     twoSprites.ppu.lcdc.getLsbD 1 = true ∧ o ∈ twoSprites.lineSprites 0 ∧ o.x.toNat ≤ 2 + 8 ∧ 2 < o.x.toNat ∧
     ¬SpriteIdxIs twoSprites 0 2 o 0#2 ∧ ¬GoesBehind twoSprites o) ∧
    (let o := twoSprites.sprite 1
     o ∈ twoSprites.lineSprites 0 ∧ o.x.toNat ≤ 8 + 8 ∧ 8 < o.x.toNat ∧ ¬SpriteIdxIs twoSprites 0 8 o 0#2 ∧
     GoesBehind twoSprites o ∧ (twoSprites.renderColumn (twoSprites.lineSprites 0) 0 8).bgIdx = 0#2) := by
  unfold SpriteIdxIs GoesBehind
  decide +kernel

/-- Of `TilesDrawn`: a DMG line with the background off; a window's first column, and the one before it. -/
theorem witness_TilesDrawn :
    (let s := State.reset.write 0xFF40#16 0x90#8
     s.cart.cgbMode = false ∧ s.ppu.lcdc.getLsbD 0 = false) ∧
    (let s := writes State.reset [(0xFF40#16, 0xB1#8), (0xFF4B#16, 0x0F#8)]
     s.ppu.lcdc.getLsbD 0 = true ∧ (s.ppu.lcdc.getLsbD 5 = true ∧ s.ppu.wy.toNat ≤ 0 ∧ s.ppu.wx.toNat ≤ 8 + 7) ∧
     ¬(s.ppu.lcdc.getLsbD 5 = true ∧ s.ppu.wy.toNat ≤ 0 ∧ s.ppu.wx.toNat ≤ 7 + 7)) := by
  decide +kernel

theorem witness_OamDmaCopies : (start [0x00#8] id []).MemoryOk ∧ 159 < 160 ∧ 160 ≤ 160 := ⟨start_memoryOk, by decide, by decide⟩

/-- Every clause: nothing armed or a transfer armed, by a command with bit 7 clear or set; the last chunk or not. -/
theorem witness_HdmaTransfers :
    (let s := cgb State.reset
     let t := s.write 0xFF55#16 0x80#8
     let u := s.write 0xFF55#16 0xFF#8
     s.cart.cgbMode = true ∧ s.hdma.active = false ∧ (0x7F#8).getLsbD 7 = false ∧ (0x80#8).getLsbD 7 = true ∧
     t.cart.cgbMode = true ∧ t.hdma.active = true ∧ t.hdma.len = 0#7 ∧
     u.cart.cgbMode = true ∧ u.hdma.active = true ∧ u.hdma.len ≠ 0#7) := by
  decide +kernel

/-- Of `ChunkMoves`: the last byte, and a cell that is not of the chunk. -/
theorem witness_ChunkMoves :
    (cgb State.reset).cart.cgbMode = true ∧ (cgb State.reset).HdmaOk ∧ (cgb State.reset).MemoryOk ∧ 15 < 16 ∧
    ∀ j, j < 16 → 16 ≠ 8192 * (cgb State.reset).mem.vbk.toNat + ((cgb State.reset).hdma.dst.toNat - 0x8000) + j :=
  ⟨rfl, by decide +kernel, ⟨Memory.wf_nil, Memory.wf_nil, Memory.wf_nil, Memory.wf_nil, Memory.wf_nil, Memory.wf_nil,
    Memory.wf_nil, Memory.wf_nil, Memory.wf_nil⟩, by decide, by decide +kernel⟩

/-- Of `RomBanks` and `ControlWrites`: each controller with its low bank number 0, and the ends of every range. -/
theorem witness_RomBanks :
    ([(MbcKind.none, 2), (.mbc1, 64), (.mbc2, 16), (.mbc3, 128), (.mbc5, 512)].all fun k =>
      let s := (withCart k.1 k.2 4).write 0x2100#16 0x00#8
      decide (s.cart.kind = k.1 ∧ 1 < s.cart.romBanks ∧ s.mbc.bankLo = 0#8 ∧ s.mbc.bankHi = 0#2)) = true ∧
    (0x0000#16).toNat < 0x2000 ∧ (0x1FFF#16).toNat < 0x2000 ∧ 0x2000 ≤ (0x2000#16).toNat ∧ (0x2FFF#16).toNat < 0x3000 ∧
    0x3000 ≤ (0x3000#16).toNat ∧ (0x3FFF#16).toNat < 0x4000 ∧ 0x4000 ≤ (0x4000#16).toNat ∧ (0x5FFF#16).toNat < 0x6000 ∧
    0x6000 ≤ (0x6000#16).toNat ∧ (0x7FFF#16).toNat < 0x8000 ∧
    (0x3EFF#16).getLsbD 8 = false ∧ (0x3FFF#16).getLsbD 8 = true := by
  decide +kernel

/-- Of `RomBanks`: MBC1 in both modes, with its high bits set, and a low bank number that is 0 or is not. -/
theorem witness_RomBanks_mbc1 :
    ([(0x00#8, 0x00#8), (0x1F#8, 0x00#8), (0x00#8, 0x01#8), (0x1F#8, 0x01#8)].all fun k =>
      let s := writes (withCart .mbc1 128 4) [(0x2000#16, k.1), (0x4000#16, 0x03#8), (0x6000#16, k.2)]
      decide (s.cart.kind = .mbc1 ∧ 1 < s.cart.romBanks ∧ s.mbc.bankLo = k.1 ∧ s.mbc.bankHi = 3#2 ∧
        s.mbc.mode = k.2.getLsbD 0)) = true := by
  decide +kernel

/-- The ends of every window, both modes (`witness_PartialWrites`), and external RAM that is gated, or absent though
enabled. -/
theorem witness_EchoUnusableExternalRam :
    0x8000 ≤ (0x8000#16).toNat ∧ (0x9FFF#16).toNat < 0xA000 ∧ 0xC000 ≤ (0xC000#16).toNat ∧ (0xCFFF#16).toNat < 0xD000 ∧
    0xD000 ≤ (0xD000#16).toNat ∧ (0xDFFF#16).toNat < 0xE000 ∧ 0xFE00 ≤ (0xFE00#16).toNat ∧ (0xFE9F#16).toNat < 0xFEA0 ∧
    0xFF80 ≤ (0xFF80#16).toNat ∧ (0xFFFE#16).toNat < 0xFFFF ∧ State.reset.mem.wram.wf ∧
    0xE000 ≤ (0xE000#16).toNat ∧ (0xFDFF#16).toNat < 0xFE00 ∧ 0xFEA0 ≤ (0xFEA0#16).toNat ∧ (0xFEFF#16).toNat < 0xFF00 ∧
    0xA000 ≤ (0xA000#16).toNat ∧ (0xBFFF#16).toNat < 0xC000 ∧ (withCart .mbc1 64 4).mbc.ramEnable = false ∧
    (withCart .none 2 0).cart.kind = .none := by
  decide +kernel

/-- The same statement, external RAM enabled: each controller without and with banks, MBC1 in both modes, and every value
of MBC3's selection, with a clock and without. -/
theorem witness_EchoUnusableExternalRam_enabled :
    ([(MbcKind.mbc1, 0), (.mbc1, 4), (.mbc2, 0), (.mbc3, 0), (.mbc3, 4), (.mbc5, 0), (.mbc5, 16)].all fun k =>
      [0x00#8, 0x01#8].all fun m =>
        let s := writes (withCart k.1 64 k.2) [(0x0000#16, 0x0A#8), (0x6000#16, m)]
        decide (s.mbc.ramEnable = true ∧ s.cart.kind = k.1 ∧ s.cart.ramBanks = k.2 ∧
          (k.1 = .mbc1 → s.mbc.mode = m.getLsbD 0))) = true ∧
    (∀ n : Fin 16, let s := writes (withCart .mbc3 64 4) [(0x0000#16, 0x0A#8), (0x4000#16, BitVec.ofNat 8 n.val)]
      s.mbc.ramEnable = true ∧ s.cart.kind = .mbc3 ∧ s.mbc.ramSel.toNat = n.val ∧ s.cart.hasRtc = true ∧
      ({ s.cart with hasRtc := false } : Cartridge).hasRtc = false) := by
  decide +kernel

/-- Of `PartialWrites`: the first and the last storage byte (canonical memories: `start_memoryOk`); both modes, the ends of
the two windows, an index that wraps. -/
theorem witness_PartialWrites :
    0xFF00 ≤ (0xFF03#16).toNat ∧ 0xFF03#16 ∉ namedRegisters ∧ (0xFF7F#16).toNat < 0xFF80 ∧ 0xFF7F#16 ∉ namedRegisters ∧
    State.reset.cart.cgbMode = false ∧ (cgb State.reset).cart.cgbMode = true ∧ 0x8000 ≤ (0x8000#16).toNat ∧
    (0x9FFF#16).toNat < 0xA000 ∧ 0xD000 ≤ (0xD000#16).toNat ∧ (0xDFFF#16).toNat < 0xE000 ∧
    (let s := (cgb State.reset).write 0xFF68#16 0xBF#8
     s.ppu.bgPal.index = 63#6 ∧ s.ppu.bgPal.autoInc = true ∧ (s.write 0xFF69#16 0x12#8).ppu.bgPal.index = 0#6 ∧
     s.ppu.bgPal.cells.wf) := by
  decide +kernel

/-- Of `CartridgeNeverChanges` and `StepCountsAreMultiplesOfFour`. -/
theorem witness_StepCountsAreMultiplesOfFour :
    (let s := start [0x00#8] id []
     isNext (step s) = true ∧ after s (·.cpu.faulted) = some none ∧ s.config.intDispatchCycles % 4 = 0 ∧
     s.carryCycles % 4 = 0) := by
  decide +kernel

theorem witness_CartridgeNeverChanges : ∃ t, step (start [0x00#8] id []) = .next t :=
  exists_next witness_StepCountsAreMultiplesOfFour.1

/-- MBC2's external RAM with its last cell full; a cartridge without a battery. -/
theorem witness_SaveRoundTrip :
    (let s : State := { withCart .mbc2 16 0 with mbc := { (withCart .mbc2 16 0).mbc with eram := [(511, 0x0F#8)] } }
     s.MemoryOk ∧ (∀ c ∈ s.mbc.eram, c.1 < s.cart.eramBytes) ∧ (s.cart.kind = .mbc2 → ∀ c ∈ s.mbc.eram, c.2.toNat < 16) ∧
     s.cart.hasBattery = true) ∧ State.reset.cart.hasBattery = false := by
  refine ⟨⟨⟨Memory.wf_nil, Memory.wf_nil, Memory.wf_nil, Memory.wf_nil, Memory.wf_nil, Memory.wf_nil, Memory.wf_nil,
    Memory.wf_nil, ?_⟩, ?_, ?_, rfl⟩, rfl⟩
  · show Memory.wf [(511, 0x0F#8)]
    decide
  · decide +kernel
  · decide +kernel

/-- Of `InvariantAtReset`: canonical memories, empty and not. -/
theorem witness_InvariantAtReset : Memory.wf [] ∧ Memory.wf [(0, 0x01#8), (0x7FFF, 0xFF#8)] := by decide

theorem witness_InvariantKept :
    (start [0x00#8] id []).Inv ∧ ∃ t, step (start [0x00#8] id []) = .next t :=
  ⟨⟨by decide +kernel, start_memoryOk, by decide +kernel, by decide +kernel, by decide +kernel⟩,
    witness_CartridgeNeverChanges⟩

end Sys2Proof.Tests
end

section
/-! Decoding by the length the first byte announces (R173). A proof that some bytes are an instruction names the length and
the instruction; what follows the bytes is dealt with here. -/

namespace Sys2Proof.Machine

theorem decodesAs_one {op : Byte} {i : Instr} (len : opLength op = 1) (dec : decodeBytes op 0x00#8 0x00#8 = i) :
    DecodesAs [op] i := by
  intro rest
  simp only [decode, List.cons_append, List.nil_append, len, dec]

theorem decodesAs_two {op n : Byte} {i : Instr} (len : opLength op = 2) (dec : decodeBytes op n 0x00#8 = i) :
    DecodesAs [op, n] i := by
  intro rest
  simp only [decode, List.cons_append, List.nil_append, len, dec]

/-- The operand word stands low byte first (R172). -/
theorem decodesAs_three {op : Byte} {mk : Word → Instr} (len : opLength op = 3)
    (dec : ∀ lo hi, decodeBytes op lo hi = mk (Word.ofBytes hi lo)) (w : Word) : DecodesAs [op, w.lo, w.hi] (mk w) := by
  intro rest
  simp only [decode, List.cons_append, List.nil_append, len, dec, ofBytes_hi_lo]

/-- Quadrant 1 (R176): the slot of `LD (HL),(HL)` is `HALT`, and `Instr.ldReg` says so too. -/
theorem decodesAs_ldReg (dst src : R8) :
    DecodesAs [BitVec.ofNat 8 (0x40 + 8 * dst.code + src.code)] (.ldReg dst src) := by
  cases dst <;> cases src <;> exact decodesAs_one rfl rfl

theorem decodesAs_ldImm (dst : R8) (n : Byte) :
    DecodesAs [BitVec.ofNat 8 (0x06 + 8 * dst.code), n] (.ldImm dst n) := by
  cases dst <;> exact decodesAs_two rfl rfl

end Sys2Proof.Machine
end

section
/-! The operations that the 8-bit loads share (40_load8.md): what each leaves, and its count. -/

namespace Sys2Proof.Machine

open State

theorem costOf_register {r : R8} (h : r ≠ .atHL) (register memory : Nat) : costOf r register memory = register := by
  cases r
  case atHL => exact absurd rfl h
  all_goals rfl

@[simp] theorem costOf_atHL (register memory : Nat) : costOf .atHL register memory = memory := rfl

/-- The address of the high page, as the rules write it (R172, R213). -/
theorem highPage_eq (n : Byte) : highPage n = 0xFF00#16 + n.setWidth 16 := by
  have hn := n.isLt
  have hcat : (highPage n).toNat = 256 * 0xFF + n.toNat := toNat_ofBytes 0xFF#8 n
  apply BitVec.eq_of_toNat_eq
  rw [hcat, BitVec.toNat_add, BitVec.toNat_setWidth, BitVec.toNat_ofNat]
  omega

/-- An instruction that is one bus write of `v` at `a`: the state it leaves, the CPU it does not touch, what memory shows. -/
theorem done_write_stores (s : State) (a : Word) (v : Byte) (n : Nat) :
    ∃ t, done (s.write a v) n = .next t ∧ t = (s.write a v).report n ∧ t.cpu = s.cpu ∧ StoresAt s t a v :=
  ⟨_, rfl, rfl, write_cpu s a v, storesAt_cpu (storesAt s a v) (s.write a v).cpu n⟩

theorem storeA_stores (a : Word) (n : Nat) (s : State) :
    ∃ t, storeA a n s = .next t ∧ t = (s.write a s.cpu.a).report n ∧ t.cpu = s.cpu ∧ StoresAt s t a s.cpu.a :=
  done_write_stores s a s.cpu.a n

theorem loadA_eq (a : Word) (n : Nat) (s : State) :
    loadA a n s = .next { s with cpu := { s.cpu with a := s.read a }, cycles := n } := rfl

/-- The access is at the old HL; HL moves after it (R215, R217). -/
theorem storeAStep_stores (delta : Word) (s : State) :
    ∃ t, storeAStep delta s = .next t ∧ t.cpu = s.cpu.setHL (s.cpu.hl + delta) ∧ t.cycles = 8 ∧
      t = { s.write s.cpu.hl s.cpu.a with cpu := t.cpu, cycles := 8 } ∧ StoresAt s t s.cpu.hl s.cpu.a := by
  have hcpu : (s.write s.cpu.hl s.cpu.a).cpu.setHL (s.cpu.hl + delta) = s.cpu.setHL (s.cpu.hl + delta) := by
    rw [write_cpu]
  exact ⟨_, rfl, hcpu, rfl, rfl, storesAt_cpu (storesAt s s.cpu.hl s.cpu.a) _ 8⟩

/-- The same for the loads (R216, R218). -/
theorem loadAStep_eq (delta : Word) (s : State) :
    loadAStep delta s =
      .next { s with cpu := { s.cpu.setHL (s.cpu.hl + delta) with a := s.read s.cpu.hl }, cycles := 8 } := rfl

end Sys2Proof.Machine
end

section
/-! The statements about the 8-bit loads (40_load8.md). -/

namespace Sys2Proof.Machine

open State

/-- Settles O6: each form decodes by its fields, and the destination is a register, so the source alone sets the count. -/
theorem loadsIntoRegisters : Obligations.LoadsIntoRegisters := by
  intro dst s hdst
  have opcode_atHL : 0x46 + 8 * dst.code = 0x40 + 8 * dst.code + R8.atHL.code :=
    Nat.add_right_comm 0x40 R8.atHL.code (8 * dst.code)
  refine ⟨fun r hr => ⟨decodesAs_ldReg dst r, ?_⟩, fun n => ⟨decodesAs_ldImm dst n, ?_⟩,
    opcode_atHL ▸ decodesAs_ldReg dst .atHL, ?_⟩
  · rw [exec_ldReg s (.inl hdst), ldReg, costOf_register hdst, costOf_register hr, done_eq]
  · rw [exec_ldImm, ldImm, costOf_register hdst, done_eq]
  · rw [exec_ldReg s (.inl hdst), ldReg, costOf_register hdst, costOf_atHL, done_eq, get8]

/-- Settles O7: both forms are one bus write at HL. -/
theorem storesThroughHL : Obligations.StoresThroughHL := by
  intro s
  refine ⟨fun r hr => ⟨decodesAs_ldReg .atHL r, ?_⟩, fun n => ⟨decodesAs_ldImm .atHL n, ?_⟩⟩
  · rw [exec_ldReg s (.inr hr), ldReg, costOf_atHL]
    exact done_write_stores s s.cpu.hl (s.get8 r) 8
  · rw [exec_ldImm, ldImm, costOf_atHL]
    exact done_write_stores s s.cpu.hl n 12

/-- Settles O8: the five forms are `loadA` at five addresses. -/
theorem accumulatorLoads : Obligations.AccumulatorLoads := by
  intro s a n
  rw [← highPage_eq n, ← highPage_eq s.cpu.c]
  exact ⟨⟨decodesAs_one rfl rfl, loadA_eq s.cpu.bc 8 s⟩,
    ⟨decodesAs_one rfl rfl, loadA_eq s.cpu.de 8 s⟩,
    ⟨decodesAs_three rfl (fun _ _ => rfl) a, loadA_eq a 16 s⟩,
    ⟨decodesAs_two rfl rfl, loadA_eq (highPage n) 12 s⟩,
    ⟨decodesAs_one rfl rfl, loadA_eq (highPage s.cpu.c) 8 s⟩⟩

/-- Settles O9: the five forms are `storeA` at five addresses. -/
theorem accumulatorStores : Obligations.AccumulatorStores := by
  intro s a n
  rw [← highPage_eq n, ← highPage_eq s.cpu.c]
  exact ⟨⟨decodesAs_one rfl rfl, storeA_stores s.cpu.bc 8 s⟩,
    ⟨decodesAs_one rfl rfl, storeA_stores s.cpu.de 8 s⟩,
    ⟨decodesAs_three rfl (fun _ _ => rfl) a, storeA_stores a 16 s⟩,
    ⟨decodesAs_two rfl rfl, storeA_stores (highPage n) 12 s⟩,
    ⟨decodesAs_one rfl rfl, storeA_stores (highPage s.cpu.c) 8 s⟩⟩

/-- Settles O10: a step down is a step by -1, as the model has it. -/
theorem steppingAccesses : Obligations.SteppingAccesses := by
  intro s
  rw [BitVec.sub_eq_add_neg]
  exact ⟨⟨decodesAs_one rfl rfl, storeAStep_stores 1#16 s⟩,
    ⟨decodesAs_one rfl rfl, storeAStep_stores (-1#16) s⟩,
    ⟨decodesAs_one rfl rfl, loadAStep_eq 1#16 s⟩,
    ⟨decodesAs_one rfl rfl, loadAStep_eq (-1#16) s⟩⟩

end Sys2Proof.Machine
end

section
/-! The operations of the 16-bit loads and of the stack (41_load16.md): how their words decode, what each leaves, and its
count. -/

namespace Sys2Proof.Machine

open State

/-- The pair stands in the bits 5:4 of the opcode (R175). -/
theorem decodesAs_ldPair (p : Rp) (n : Word) :
    DecodesAs [BitVec.ofNat 8 (0x01 + 16 * p.code), n.lo, n.hi] (.ldPair p n) := by
  cases p <;> exact decodesAs_three rfl (fun _ _ => rfl) n

theorem decodesAs_pushPair (p : Rp2) : DecodesAs [BitVec.ofNat 8 (0xC5 + 16 * p.code)] (.pushPair p) := by
  cases p <;> exact decodesAs_one rfl rfl

theorem decodesAs_popPair (p : Rp2) : DecodesAs [BitVec.ofNat 8 (0xC1 + 16 * p.code)] (.popPair p) := by
  cases p <;> exact decodesAs_one rfl rfl

theorem ldPair_eq (p : Rp) (n : Word) (s : State) :
    ldPair p n s = .next { s with cpu := s.cpu.setRp p n, cycles := 12 } := rfl

theorem ldSPHL_eq (s : State) :
    ldSPHL s = .next { s with cpu := { s.cpu with sp := s.cpu.h ++ s.cpu.l }, cycles := 8 } := rfl

@[simp] theorem write16_cpu (s : State) (a v : Word) : (s.write16 a v).cpu = s.cpu :=
  (write_cpu (s.write a v.lo) (a + 1#16) v.hi).trans (write_cpu s a v.lo)

/-- The two stores are all that `LD (a16),SP` does (R231). -/
theorem storeSP_stores (a : Word) (s : State) :
    ∃ t, storeSP a s = .next t ∧ t = ((s.write a s.cpu.sp.lo).write (a + 1#16) s.cpu.sp.hi).report 20 ∧
      t.cpu = s.cpu ∧ StoresTwo s t a s.cpu.sp.lo (a + 1#16) s.cpu.sp.hi :=
  ⟨_, rfl, rfl, write16_cpu s a s.cpu.sp,
    storesTwo_cpu (storesTwo_write16 s a s.cpu.sp) (s.write16 a s.cpu.sp).cpu 20⟩

/-- A push and nothing else: SP alone moves, and the two stores are at its old value less 1 and less 2 (R233). -/
theorem done_push16_stores (s : State) (v : Word) (n : Nat) :
    ∃ t, done (s.push16 v) n = .next t ∧ t.cpu = { s.cpu with sp := s.cpu.sp - 2#16 } ∧ t.cycles = n ∧
      t = { (s.write (s.cpu.sp - 1#16) v.hi).write (s.cpu.sp - 2#16) v.lo with cpu := t.cpu, cycles := n } ∧
      StoresTwo s t (s.cpu.sp - 1#16) v.hi (s.cpu.sp - 2#16) v.lo :=
  ⟨_, rfl, push16_cpu s v, rfl, rfl, storesTwo_cpu (storesTwo_push16 s v) (s.push16 v).cpu n⟩

/-- The word is read at the old SP, low byte first (R234). -/
theorem popPair_eq (p : Rp2) (s : State) :
    popPair p s = .next { s with
      cpu := ({ s.cpu with sp := s.cpu.sp + 2#16 } : Cpu).setRp2 p
        (Word.ofBytes (s.read (s.cpu.sp + 1#16)) (s.read s.cpu.sp))
      cycles := 12 } := rfl

namespace Cpu

/-! The halves of a pair after its two bytes are written to it (R22, R235). -/

theorem setRp2_bc_ofBytes (c : Cpu) (h l : Byte) : c.setRp2 .bc (Word.ofBytes h l) = { c with b := h, c := l } := by
  rw [setRp2, setBC, ofBytes_hi, ofBytes_lo]

theorem setRp2_de_ofBytes (c : Cpu) (h l : Byte) : c.setRp2 .de (Word.ofBytes h l) = { c with d := h, e := l } := by
  rw [setRp2, setDE, ofBytes_hi, ofBytes_lo]

theorem setRp2_hl_ofBytes (c : Cpu) (h l : Byte) : c.setRp2 .hl (Word.ofBytes h l) = { c with h := h, l := l } := by
  rw [setRp2, setHL, ofBytes_hi, ofBytes_lo]

theorem setRp2_af_ofBytes (c : Cpu) (h l : Byte) :
    c.setRp2 .af (Word.ofBytes h l) = { c with a := h, f := l &&& 0xF0#8 } := by
  rw [setRp2, setAF, ofBytes_hi, ofBytes_lo]

end Cpu

end Sys2Proof.Machine
end

section
/-! The statements about the 16-bit loads and the stack (41_load16.md). -/

namespace Sys2Proof.Machine

open State

/-- Settles O12: the instruction is one bus write of a word, whose two bytes lead to places of their own. -/
theorem storesStackPointer : Obligations.StoresStackPointer := by
  intro s a
  exact ⟨decodesAs_three rfl (fun _ _ => rfl) a, storeSP_stores a s⟩

/-- Settles O13: each form is one push of its pair. -/
theorem pushes : Obligations.Pushes := by
  intro s p
  refine ⟨decodesAs_pushPair p, ?_⟩
  rw [exec_pushPair, pushPair]
  exact done_push16_stores s (s.cpu.getRp2 p) 16

/-- Settles O11: each form writes one pair, and no pair but AF holds flags. -/
theorem pairLoads : Obligations.PairLoads := by
  intro s
  refine ⟨fun p n => ⟨decodesAs_ldPair p n, ?_⟩, decodesAs_one rfl rfl, ldSPHL_eq s⟩
  rw [exec_ldPair, ldPair_eq]

/-- Settles O14: the word popped goes to the pair byte by byte, and AF alone drops bits of it. -/
theorem pops : Obligations.Pops := by
  intro s
  refine ⟨decodesAs_popPair, ?bc, ?de, ?hl, ?af⟩
  case bc => rw [exec_popPair, popPair_eq, Cpu.setRp2_bc_ofBytes]
  case de => rw [exec_popPair, popPair_eq, Cpu.setRp2_de_ofBytes]
  case hl => rw [exec_popPair, popPair_eq, Cpu.setRp2_hl_ofBytes]
  case af => rw [exec_popPair, popPair_eq, Cpu.setRp2_af_ofBytes]

end Sys2Proof.Machine
end

section
/-! The operations of the 8-bit arithmetic and logic (42_alu8.md): how their words decode, and what each computes, in the
terms of the statements. -/

namespace Sys2Proof.Machine

open State

/-! ### Words (R250, R260 to R263) -/

theorem decodesAs_aluReg (op : AluOp) (r : R8) :
    DecodesAs [BitVec.ofNat 8 (0x80 + 8 * op.code + r.code)] (.aluReg op r) := by
  cases op <;> cases r <;> exact decodesAs_one rfl rfl

theorem decodesAs_aluImm (op : AluOp) (n : Byte) :
    DecodesAs [BitVec.ofNat 8 (0xC6 + 8 * op.code), n] (.aluImm op n) := by
  cases op <;> exact decodesAs_two rfl rfl

theorem decodesAs_incReg (r : R8) : DecodesAs [BitVec.ofNat 8 (0x04 + 8 * r.code)] (.incReg r) := by
  cases r <;> exact decodesAs_one rfl rfl

theorem decodesAs_decReg (r : R8) : DecodesAs [BitVec.ofNat 8 (0x05 + 8 * r.code)] (.decReg r) := by
  cases r <;> exact decodesAs_one rfl rfl

/-! ### The accumulator operations (R250 to R258) -/

theorem costOf_eq_ite (r : R8) (register memory : Nat) :
    costOf r register memory = if r = .atHL then memory else register := by
  cases r <;> rfl

theorem aluA_eq (op : AluOp) (b : Byte) (n : Nat) (s : State) :
    aluA op b n s = .next { s with
      cpu := { s.cpu with a := (alu8 op s.cpu.a b s.cpu.f).value, f := (alu8 op s.cpu.a b s.cpu.f).flags }
      cycles := n } := rfl

/-- The three forms differ in the operand and the count alone, so what `alu8` computes decides for all of them. -/
theorem aluForms_of_alu8 {op : AluOp} {post : Byte → State → State → Prop}
    (computed : ∀ b s t, t.cpu.a = (alu8 op s.cpu.a b s.cpu.f).value → t.cpu.f = (alu8 op s.cpu.a b s.cpu.f).flags →
      post b s t) : AluForms op post := by
  intro s
  refine ⟨fun r => ⟨decodesAs_aluReg op r, ?_⟩, fun n => ⟨decodesAs_aluImm op n, ?_⟩⟩
  · rw [exec_aluReg, aluReg, costOf_eq_ite, aluA_eq]
    exact ⟨_, rfl, rfl, computed _ _ _ rfl rfl⟩
  · rw [exec_aluImm, aluImm, aluA_eq]
    exact ⟨_, rfl, rfl, computed _ _ _ rfl rfl⟩

/-- A difference without a borrow, as R253 writes it. -/
theorem sub8_noBorrow_toNat (a b : Byte) : (sub8 a b false).value.toNat = (a.toNat + 256 - b.toNat) % 256 := by
  have hb := b.isLt
  have hvalue : (sub8 a b false).value.toNat = (a.toNat + 512 - b.toNat - 0) % 256 := (sub8_spec a b false).1
  omega

theorem sub8_noBorrow_eq_zero_iff (a b : Byte) : (sub8 a b false).value = 0#8 ↔ a = b := by
  have ha := a.isLt
  have hb := b.isLt
  rw [← BitVec.toNat_inj, ← BitVec.toNat_inj, sub8_noBorrow_toNat, BitVec.toNat_ofNat]
  omega

theorem logic8_flags (w : Byte) {h : Bool} {p : Prop} (hp : h = true ↔ p) :
    FlagsAre (logic8 w h).flags ((logic8 w h).value = 0#8) False p False :=
  flagsAre_mkF beq_iff_eq Bool.false_eq_true.to_iff hp Bool.false_eq_true.to_iff

/-! ### `INC` and `DEC` (R260 to R263) -/

/-- An operand changed by `g`, then F: one write to the operand, at HL when it is `(HL)`. -/
theorem done_set8_withF (s : State) (r : R8) (g : Byte → Byte) (f : Byte) :
    ∃ t, done ((s.set8 r (g (s.get8 r))).withF f) (costOf r 4 12) = .next t ∧
      t = ((s.set8 r (g (s.get8 r))).withF f).report (if r = .atHL then 12 else 4) ∧
      (r = .atHL → t.cpu = { s.cpu with f := f } ∧ StoresAt s t s.cpu.hl (g (s.read s.cpu.hl))) := by
  rw [costOf_eq_ite]
  refine ⟨_, rfl, rfl, ?_⟩
  rintro rfl
  refine ⟨?_, storesAt_cpu (storesAt s s.cpu.hl (g (s.read s.cpu.hl))) _ 12⟩
  rw [report_cpu, withF_cpu, set8, write_cpu]

/-! ### `DAA`, `CPL` and the carry instructions (R265 to R268) -/

theorem adjustA_changesAF (g : Byte → Byte → Out8) (s : State) :
    ∃ t, adjustA g s = .next t ∧ ChangesAF s t 4 ∧ t.cpu.a = (g s.cpu.a s.cpu.f).value ∧
      t.cpu.f = (g s.cpu.a s.cpu.f).flags :=
  ⟨_, rfl, rfl, rfl, rfl⟩

theorem carryOp_changesF (g : Byte → Byte) (s : State) :
    ∃ t, carryOp g s = .next t ∧ ChangesF s t 4 ∧ t.cpu.f = g s.cpu.f :=
  ⟨_, rfl, rfl, rfl⟩

/-- Whether `DAA` corrects the low digit. -/
def daaLow (a f : Byte) : Bool := hf f || (!nf f && decide (a.toNat % 16 > 9))

/-- Whether `DAA` corrects the high digit. -/
def daaHigh (a f : Byte) : Bool := cf f || (!nf f && decide (a.toNat > 0x99))

/-- The correction of the two digits. -/
def daaAdjustment (low high : Bool) : Byte := (if low then 0x06#8 else 0x00#8) ||| (if high then 0x60#8 else 0x00#8)

theorem daaLow_iff (a f : Byte) : daaLow a f = true ↔ hf f = true ∨ (nf f = false ∧ a.toNat % 16 > 9) := by
  simp [daaLow]

theorem daaHigh_iff (a f : Byte) : daaHigh a f = true ↔ cf f = true ∨ (nf f = false ∧ a.toNat > 0x99) := by
  simp [daaHigh]

/-- On the subtract path the digits themselves take no part. -/
theorem daa8_eq (a f : Byte) :
    (daa8 a f).value = (if nf f then a - daaAdjustment (daaLow a f) (daaHigh a f)
      else a + daaAdjustment (daaLow a f) (daaHigh a f)) ∧
    (daa8 a f).flags = mkF ((daa8 a f).value == 0#8) (nf f) false (daaHigh a f) := by
  cases hn : nf f <;> simp [daa8, daaLow, daaHigh, daaAdjustment, hn]

theorem daa8_toNat (a f : Byte) :
    (daa8 a f).value.toNat = (if nf f then a.toNat + 256 - (daaAdjustment (daaLow a f) (daaHigh a f)).toNat
      else a.toNat + (daaAdjustment (daaLow a f) (daaHigh a f)).toNat) % 256 := by
  have hadj := (daaAdjustment (daaLow a f) (daaHigh a f)).isLt
  rw [(daa8_eq a f).1]
  split
  · rw [BitVec.toNat_sub]
    omega
  · exact BitVec.toNat_add _ _

theorem daa8_flags (a f : Byte) :
    FlagsAre (daa8 a f).flags ((daa8 a f).value = 0#8) (nf f = true) False
      (cf f = true ∨ (nf f = false ∧ a.toNat > 0x99)) := by
  rw [(daa8_eq a f).2]
  exact flagsAre_mkF beq_iff_eq Iff.rfl Bool.false_eq_true.to_iff (daaHigh_iff a f)

/-- The four corrections, one for each choice of digits. -/
theorem daaAdjustment_cases {low high : Bool} {l h : Prop} (hl : low = true ↔ l) (hh : high = true ↔ h) :
    (l → h → (daaAdjustment low high).toNat = 0x66) ∧ (l → ¬h → (daaAdjustment low high).toNat = 0x06) ∧
    (¬l → h → (daaAdjustment low high).toNat = 0x60) ∧ (¬l → ¬h → (daaAdjustment low high).toNat = 0) := by
  rw [← hl, ← hh]
  cases low <;> cases high <;> decide

theorem cpl8_toNat (a f : Byte) : (cpl8 a f).value.toNat = 255 - a.toNat := by
  have complement : (cpl8 a f).value = ~~~a := BitVec.xor_allOnes
  rw [complement, BitVec.toNat_not]

end Sys2Proof.Machine
end

section
/-! The statements about the 8-bit arithmetic and logic (42_alu8.md). -/

namespace Sys2Proof.Machine

open State

/-- Settles O15: both are `add8`, `ADD` with no carry in. -/
theorem adds : Obligations.Adds := by
  refine ⟨aluForms_of_alu8 fun b s t ha hf => ?add, aluForms_of_alu8 fun b s t ha hf => ?adc⟩
  case add =>
    rw [ha, hf]
    exact add8_spec s.cpu.a b false
  case adc =>
    rw [ha, hf]
    exact add8_spec s.cpu.a b (cf s.cpu.f)

/-- Settles O16: both are `sub8`, `SUB` with no borrow in. -/
theorem subtracts : Obligations.Subtracts := by
  refine ⟨aluForms_of_alu8 fun b s t ha hf => ?sub, aluForms_of_alu8 fun b s t ha hf => ?sbc⟩
  case sub =>
    rw [ha, hf]
    exact ⟨sub8_noBorrow_toNat s.cpu.a b, (sub8_spec s.cpu.a b false).2⟩
  case sbc =>
    rw [ha, hf]
    exact sub8_spec s.cpu.a b (cf s.cpu.f)

/-- Settles O17: each is a `logic8` of a bitwise result; H is all that tells `AND` from the others. -/
theorem logic : Obligations.Logic := by
  refine ⟨aluForms_of_alu8 fun b s t ha hf => ?and, aluForms_of_alu8 fun b s t ha hf => ?xor,
    aluForms_of_alu8 fun b s t ha hf => ?or⟩
  case and =>
    rw [ha, hf]
    exact ⟨fun _ => BitVec.getLsbD_and, logic8_flags (s.cpu.a &&& b) (iff_true_intro rfl)⟩
  case xor =>
    rw [ha, hf]
    exact ⟨fun _ => BitVec.getLsbD_xor, logic8_flags (s.cpu.a ^^^ b) Bool.false_eq_true.to_iff⟩
  case or =>
    rw [ha, hf]
    exact ⟨fun _ => BitVec.getLsbD_or, logic8_flags (s.cpu.a ||| b) Bool.false_eq_true.to_iff⟩

/-- Settles O18: the flags are those of the difference, which is zero exactly when the operands are equal. -/
theorem compares : Obligations.Compares := by
  refine aluForms_of_alu8 fun b s t ha hf => ?_
  have hflags := (sub8_spec s.cpu.a b false).2
  rw [ha, hf]
  exact ⟨rfl, { hflags with z := hflags.z.trans (sub8_noBorrow_eq_zero_iff s.cpu.a b) }⟩

/-- Settles O19: both directions change one operand and F; `inc8` and `dec8` give the flags. -/
theorem incrementsDecrements : Obligations.IncrementsDecrements := by
  intro s r
  refine ⟨decodesAs_incReg r, decodesAs_decReg r, ⟨_, (inc8_spec (s.get8 r) s.cpu.f).2, ?inc⟩,
    ⟨_, (dec8_spec (s.get8 r) s.cpu.f).2, ?dec⟩⟩
  case inc =>
    rw [exec_incReg]
    exact done_set8_withF s r (· + 1#8) _
  case dec =>
    rw [exec_decReg]
    exact done_set8_withF s r (· - 1#8) _

/-- Settles O20: the correction is chosen by the two digits, and added or subtracted as N says. -/
theorem decimalAdjusts : Obligations.DecimalAdjusts := by
  intro s
  obtain ⟨t, hexec, hframe, ha, hf⟩ := adjustA_changesAF daa8 s
  refine ⟨decodesAs_one rfl rfl, t, hexec, hframe,
    (daaAdjustment (daaLow s.cpu.a s.cpu.f) (daaHigh s.cpu.a s.cpu.f)).toNat,
    daaAdjustment_cases (daaLow_iff s.cpu.a s.cpu.f) (daaHigh_iff s.cpu.a s.cpu.f), ?_⟩
  rw [ha, hf]
  exact ⟨daa8_toNat s.cpu.a s.cpu.f, daa8_flags s.cpu.a s.cpu.f⟩

/-- Settles O22: `CPL` adjusts A and F, `SCF` and `CCF` replace F alone. -/
theorem complementsAndCarry : Obligations.ComplementsAndCarry := by
  intro s
  have cleared : false = true ↔ False := Bool.false_eq_true.to_iff
  have raised : true = true ↔ True := iff_true_intro rfl
  refine ⟨⟨decodesAs_one rfl rfl, ?cpl⟩, ⟨decodesAs_one rfl rfl, ?scf⟩, ⟨decodesAs_one rfl rfl, ?ccf⟩⟩
  case cpl =>
    obtain ⟨t, hexec, hframe, ha, hf⟩ := adjustA_changesAF cpl8 s
    refine ⟨t, hexec, hframe, ?_⟩
    rw [ha, hf]
    exact ⟨cpl8_toNat s.cpu.a s.cpu.f, flagsAre_mkF Iff.rfl raised raised Iff.rfl⟩
  case scf =>
    obtain ⟨t, hexec, hframe, hf⟩ := carryOp_changesF scfFlags s
    exact ⟨t, hexec, hframe, hf ▸ flagsAre_mkF Iff.rfl cleared cleared raised⟩
  case ccf =>
    obtain ⟨t, hexec, hframe, hf⟩ := carryOp_changesF ccfFlags s
    exact ⟨t, hexec, hframe, hf ▸ flagsAre_mkF Iff.rfl cleared cleared (Bool.not_eq_true' _).to_iff⟩

end Sys2Proof.Machine
end

section
/-! The operations of the 16-bit arithmetic (43_alu16.md): how their words decode, what each leaves, and its count. -/

namespace Sys2Proof.Machine

open State

/-- The pair stands in the bits 5:4 of the opcode (R175). -/
theorem decodesAs_addHL (p : Rp) : DecodesAs [BitVec.ofNat 8 (0x09 + 16 * p.code)] (.addHL p) := by
  cases p <;> exact decodesAs_one rfl rfl

theorem decodesAs_incPair (p : Rp) : DecodesAs [BitVec.ofNat 8 (0x03 + 16 * p.code)] (.incPair p) := by
  cases p <;> exact decodesAs_one rfl rfl

theorem decodesAs_decPair (p : Rp) : DecodesAs [BitVec.ofNat 8 (0x0B + 16 * p.code)] (.decPair p) := by
  cases p <;> exact decodesAs_one rfl rfl

theorem addPair_eq (p : Rp) (delta : Word) (s : State) :
    addPair p delta s = .next { s with cpu := s.cpu.setRp p (s.cpu.getRp p + delta), cycles := 8 } := rfl

/-- A 16-bit result written to HL and F: `ADD HL,rr` and `LD HL,SP+e8` end so. -/
theorem done_setHL_withF (s : State) (out : Out16) (n : Nat) :
    ∃ t, done ((s.onCpu fun c => c.setHL out.value).withF out.flags) n = .next t ∧
      t = { s with cpu := { s.cpu with h := t.cpu.h, l := t.cpu.l, f := t.cpu.f }, cycles := n } ∧
      t.cpu.hl = out.value ∧ t.cpu.f = out.flags :=
  ⟨_, rfl, rfl, Cpu.hl_setHL s.cpu out.value, rfl⟩

theorem addSP_changes (e : Byte) (s : State) :
    ∃ t, addSP e s = .next t ∧
      t = { s with cpu := { s.cpu with sp := t.cpu.sp, f := t.cpu.f }, cycles := 16 } ∧
      t.cpu.sp = (addSigned16 s.cpu.sp e).value ∧ t.cpu.f = (addSigned16 s.cpu.sp e).flags :=
  ⟨_, rfl, rfl, rfl, rfl⟩

end Sys2Proof.Machine
end

section
/-! The statements about the 16-bit arithmetic (43_alu16.md). -/

namespace Sys2Proof.Machine

open State

/-- Settles O23: HL and F take the value and the flags of `addHL16`. -/
theorem addsPairs : Obligations.AddsPairs := by
  intro s p
  obtain ⟨t, hexec, hframe, hhl, hf⟩ := done_setHL_withF s (addHL16 s.cpu.hl (s.cpu.getRp p) s.cpu.f) 8
  refine ⟨decodesAs_addHL p, t, (exec_addHL p s).trans hexec, hframe, ?_⟩
  rw [hhl, hf]
  exact addHL16_spec s.cpu.hl (s.cpu.getRp p) s.cpu.f

/-- Settles O24: both are `addPair`; a step down is a step by -1, as the model has it. -/
theorem stepsPairs : Obligations.StepsPairs := by
  intro s p
  rw [BitVec.sub_eq_add_neg]
  exact ⟨⟨decodesAs_incPair p, (exec_incPair p s).trans (addPair_eq p 1#16 s)⟩,
    ⟨decodesAs_decPair p, (exec_decPair p s).trans (addPair_eq p (-1#16) s)⟩⟩

/-- Settles O25: both forms are `addSigned16` of SP; they differ in where the result goes, and in the count. -/
theorem displacesStackPointer : Obligations.DisplacesStackPointer := by
  intro s u
  refine ⟨⟨decodesAs_two rfl rfl, ?addSP⟩, ⟨decodesAs_two rfl rfl, ?ldHLSP⟩⟩
  case addSP =>
    obtain ⟨t, hexec, hframe, hsp, hf⟩ := addSP_changes u s
    refine ⟨t, hexec, hframe, ?_⟩
    rw [hsp, hf]
    exact addSigned16_spec s.cpu.sp u
  case ldHLSP =>
    obtain ⟨t, hexec, hframe, hhl, hf⟩ := done_setHL_withF s (addSigned16 s.cpu.sp u) 12
    refine ⟨t, hexec, hframe, ?_⟩
    rw [hhl, hf]
    exact addSigned16_spec s.cpu.sp u

end Sys2Proof.Machine
end

section
/-! The operations of the rotates, shifts and bit instructions (44_rotate_shift_bit.md): how their words decode, what each
computes, in the terms of the statements, and what each leaves. -/

namespace Sys2Proof.Machine

open State

/-! ### Words (R179) -/

theorem decodesAs_rot (op : RotOp) (r : R8) :
    DecodesAs [0xCB#8, BitVec.ofNat 8 (8 * op.code + r.code)] (.rot op r) := by
  cases op <;> cases r <;> exact decodesAs_two rfl rfl

theorem decodesAs_bit (n : Fin 8) (r : R8) :
    DecodesAs [0xCB#8, BitVec.ofNat 8 (0x40 + 8 * n.val + r.code)] (.bit n r) := by
  fin_cases n <;> cases r <;> exact decodesAs_two rfl rfl

theorem decodesAs_res (n : Fin 8) (r : R8) :
    DecodesAs [0xCB#8, BitVec.ofNat 8 (0x80 + 8 * n.val + r.code)] (.res n r) := by
  fin_cases n <;> cases r <;> exact decodesAs_two rfl rfl

theorem decodesAs_set (n : Fin 8) (r : R8) :
    DecodesAs [0xCB#8, BitVec.ofNat 8 (0xC0 + 8 * n.val + r.code)] (.set n r) := by
  fin_cases n <;> cases r <;> exact decodesAs_two rfl rfl

/-! ### Results and flags (R300 to R303, R306 to R313, R315 to R317) -/

/-- The result and the bit moved out are functions of the operand and the carry. -/
theorem rotatesTo_unique {op : RotOp} {v carry w out w' out' : Nat} (h : RotatesTo op v carry w out)
    (h' : RotatesTo op v carry w' out') : w = w' ∧ out = out' := by
  cases op <;> exact ⟨h.1.trans h'.1.symm, h.2.trans h'.2.symm⟩

theorem rot8_flags (op : RotOp) (v f : Byte) :
    FlagsAre (rot8 op v f).flags ((rot8 op v f).value = 0#8) False False ((shift8 op v (cf f)).2.toNat = 1) :=
  flagsAre_mkF beq_iff_eq Bool.false_eq_true.to_iff Bool.false_eq_true.to_iff Bool.toNat_eq_one.symm

theorem rotA8_flags (op : RotOp) (v f : Byte) :
    FlagsAre (rotA8 op v f).flags False False False ((shift8 op v (cf f)).2.toNat = 1) :=
  flagsAre_mkF Bool.false_eq_true.to_iff Bool.false_eq_true.to_iff Bool.false_eq_true.to_iff Bool.toNat_eq_one.symm

theorem bitFlags_spec (n : Fin 8) (v f : Byte) :
    FlagsAre (bitFlags n v f) (v.getLsbD n.val = false) False True (cf f = true) :=
  flagsAre_mkF (Bool.not_eq_true' _).to_iff Bool.false_eq_true.to_iff (iff_true_intro rfl) Iff.rfl

/-- The mask of `RES` and `SET`. -/
theorem getLsbD_bitMask (n : Fin 8) (i : Nat) : (1#8 <<< n.val).getLsbD i = decide (n.val = i) := by
  rw [← BitVec.twoPow_eq, BitVec.getLsbD_twoPow, decide_eq_true n.isLt, Bool.true_and]

theorem getLsbD_resBit (n : Fin 8) (v : Byte) {i : Nat} (hi : i < 8) :
    (resBit n v).getLsbD i = if i = n.val then false else v.getLsbD i := by
  rw [resBit, BitVec.getLsbD_and, BitVec.getLsbD_not, getLsbD_bitMask]
  split
  next h => simp [h]
  next h => simp [hi, Ne.symm h]

theorem getLsbD_setBit (n : Fin 8) (v : Byte) (i : Nat) :
    (setBit n v).getLsbD i = if i = n.val then true else v.getLsbD i := by
  rw [setBit, BitVec.getLsbD_or, getLsbD_bitMask]
  split
  next h => simp [h]
  next h => simp [Ne.symm h]

/-! ### What each leaves (R305) -/

/-- A rotate of A leaves what `RotatesTo` says of its operation. -/
theorem rotateA_changesAF (op : RotOp) {s : State} {w out : Nat}
    (h : RotatesTo op s.cpu.a.toNat (cf s.cpu.f).toNat w out) :
    ∃ t, rotateA op s = .next t ∧ ChangesAF s t 4 ∧ t.cpu.a.toNat = w ∧ FlagsAre t.cpu.f False False False (out = 1) := by
  obtain ⟨rfl, rfl⟩ := rotatesTo_unique h (shift8_spec op s.cpu.a (cf s.cpu.f))
  exact ⟨_, rfl, rfl, rfl, rotA8_flags op s.cpu.a s.cpu.f⟩

/-- An instruction that replaces its operand, then CPU registers by `g`: one write at HL when the operand is `(HL)`. -/
theorem done_set8_onCpu_stores (s : State) (r : R8) (w : Byte) (g : Cpu → Cpu) (register memory : Nat) :
    ∃ t, done ((s.set8 r w).onCpu g) (costOf r register memory) = .next t ∧
      t = ((s.set8 r w).onCpu g).report (if r = .atHL then memory else register) ∧
      (r = .atHL → t.cpu = g s.cpu ∧ StoresAt s t s.cpu.hl w) := by
  rw [costOf_eq_ite]
  refine ⟨_, rfl, rfl, ?_⟩
  rintro rfl
  refine ⟨?_, storesAt_cpu (storesAt s s.cpu.hl w) _ memory⟩
  rw [report_cpu, onCpu_cpu, set8, write_cpu]

theorem bitReg_changesF (n : Fin 8) (r : R8) (s : State) :
    ∃ t, bitReg n r s = .next t ∧ ChangesF s t (if r = .atHL then 12 else 8) ∧
      t.cpu.f = bitFlags n (s.get8 r) s.cpu.f := by
  rw [bitReg, costOf_eq_ite]
  exact ⟨_, rfl, rfl, rfl⟩

end Sys2Proof.Machine
end

section
/-! The statements about the rotates, shifts and bit instructions (44_rotate_shift_bit.md). -/

namespace Sys2Proof.Machine

open State

/-- Settles O26: the four are `rotateA`, each of one operation, whose result R300 to R303 write out. -/
theorem rotatesA : Obligations.RotatesA := by
  intro s
  exact ⟨⟨decodesAs_one rfl rfl, rotateA_changesAF .rlc ⟨rfl, rfl⟩⟩,
    ⟨decodesAs_one rfl rfl, rotateA_changesAF .rrc ⟨rfl, rfl⟩⟩,
    ⟨decodesAs_one rfl rfl, rotateA_changesAF .rl ⟨rfl, rfl⟩⟩,
    ⟨decodesAs_one rfl rfl, rotateA_changesAF .rr ⟨rfl, rfl⟩⟩⟩

/-- Settles O27: the operand and F take the value and the flags of `rot8`, whose value is that of `shift8`. -/
theorem rotatesAndShifts : Obligations.RotatesAndShifts := by
  intro op r s
  refine ⟨decodesAs_rot op r, _, _, _, shift8_spec op (s.get8 r) (cf s.cpu.f), rot8_flags op (s.get8 r) s.cpu.f, ?_⟩
  rw [exec_rot]
  exact done_set8_onCpu_stores s r (rot8 op (s.get8 r) s.cpu.f).value _ 8 16

/-- Settles O28: F alone takes `bitFlags` of the operand. -/
theorem testsBits : Obligations.TestsBits := by
  intro n r s
  obtain ⟨t, hexec, hframe, hf⟩ := bitReg_changesF n r s
  exact ⟨decodesAs_bit n r, t, (exec_bit n r s).trans hexec, hframe, hf ▸ bitFlags_spec n (s.get8 r) s.cpu.f⟩

/-- Settles O29: both replace the operand, by `resBit` and by `setBit` of it. -/
theorem changesBits : Obligations.ChangesBits := by
  intro n r s
  refine ⟨decodesAs_res n r, decodesAs_set n r, ⟨_, fun _ hi => getLsbD_resBit n (s.get8 r) hi, ?res⟩,
    ⟨_, fun i _ => getLsbD_setBit n (s.get8 r) i, ?set⟩⟩
  case res =>
    rw [exec_res]
    exact done_set8_onCpu_stores s r (resBit n (s.get8 r)) id 8 16
  case set =>
    rw [exec_set]
    exact done_set8_onCpu_stores s r (setBit n (s.get8 r)) id 8 16

end Sys2Proof.Machine
end

section
/-! The operations of the jumps, calls and returns (45_control.md): how their words decode, what each leaves, its count, and
how the conditions choose. -/

namespace Sys2Proof.Machine

open State

/-! ### Words: the condition, or the target of `RST`, stands in the bits of the opcode (R175, R178) -/

theorem decodesAs_jpIf (k : Cond) (a : Word) :
    DecodesAs [BitVec.ofNat 8 (0xC2 + 8 * k.code), a.lo, a.hi] (.jpIf k a) := by
  cases k <;> exact decodesAs_three rfl (fun _ _ => rfl) a

theorem decodesAs_jrIf (k : Cond) (u : Byte) : DecodesAs [BitVec.ofNat 8 (0x20 + 8 * k.code), u] (.jrIf k u) := by
  cases k <;> exact decodesAs_two rfl rfl

theorem decodesAs_callIf (k : Cond) (a : Word) :
    DecodesAs [BitVec.ofNat 8 (0xC4 + 8 * k.code), a.lo, a.hi] (.callIf k a) := by
  cases k <;> exact decodesAs_three rfl (fun _ _ => rfl) a

theorem decodesAs_retIf (k : Cond) : DecodesAs [BitVec.ofNat 8 (0xC0 + 8 * k.code)] (.retIf k) := by
  cases k <;> exact decodesAs_one rfl rfl

theorem decodesAs_rst (y : Fin 8) : DecodesAs [BitVec.ofNat 8 (0xC7 + 8 * y.val)] (.rst y) := by
  fin_cases y <;> exact decodesAs_one rfl rfl

/-! ### Conditions (R340) -/

theorem condHolds_iff (k : Cond) (f : Byte) : condHolds k f = true ↔ CondIs k f := by
  cases k
  case nz => exact (Bool.not_eq_true' _).to_iff
  case z => exact Iff.rfl
  case nc => exact (Bool.not_eq_true' _).to_iff
  case c => exact Iff.rfl

/-- The choice that `JP`, `JR`, `CALL` and `RET` make alike, where the condition holds. -/
theorem ite_condHolds_taken {k : Cond} {f : Byte} (h : CondIs k f) (taken notTaken : Result) :
    (if condHolds k f then taken else notTaken) = taken :=
  if_pos ((condHolds_iff k f).mpr h)

theorem ite_condHolds_notTaken {k : Cond} {f : Byte} (h : ¬CondIs k f) (taken notTaken : Result) :
    (if condHolds k f then taken else notTaken) = notTaken :=
  if_neg (mt (condHolds_iff k f).mp h)

/-! ### What each leaves -/

theorem done_jump (s : State) (a : Word) (n : Nat) :
    done (s.jump a) n = .next { s with cpu := { s.cpu with pc := a }, cycles := n } := rfl

/-- PC alone moves, by the signed displacement (R333). -/
theorem done_jumpBy (s : State) (u : Byte) (n : Nat) :
    ∃ t, done (s.jumpBy u) n = .next t ∧ t = { s with cpu := { s.cpu with pc := t.cpu.pc }, cycles := n } ∧
      (t.cpu.pc.toNat : Int) = ((s.cpu.pc.toNat : Int) + u.toInt) % 65536 :=
  ⟨_, rfl, rfl, toNat_displaced s.cpu.pc u⟩

/-- A call is a push of PC, after which PC is the target (R335). -/
theorem done_call_callsTo (s : State) (a : Word) (n : Nat) : ∃ t, done (s.call a) n = .next t ∧ CallsTo s t a n := by
  have hcpu : (s.call a).cpu = { s.cpu with sp := s.cpu.sp - 2#16, pc := a } := by
    rw [call, jump_cpu, push16_cpu]
  exact ⟨_, rfl, hcpu, rfl, storesTwo_cpu (storesTwo_push16 s s.cpu.pc) (s.call a).cpu n⟩

/-- PC is the word at the old SP (R337). -/
theorem done_ret (s : State) (n : Nat) :
    done s.ret n = .next { s with
      cpu := { s.cpu with pc := s.read (s.cpu.sp + 1#16) ++ s.read s.cpu.sp, sp := s.cpu.sp + 2#16 }, cycles := n } := rfl

end Sys2Proof.Machine
end

section
/-! The statements about the jumps, calls and returns (45_control.md). -/

namespace Sys2Proof.Machine

open State

/-- Settles O30: two are `jump` to an address, the third is `jumpBy`. -/
theorem jumps : Obligations.Jumps := by
  intro s a u
  exact ⟨⟨decodesAs_three rfl (fun _ _ => rfl) a, done_jump s a 16⟩,
    ⟨decodesAs_one rfl rfl, done_jump s s.cpu.hl 4⟩,
    ⟨decodesAs_two rfl rfl, done_jumpBy s u 12⟩⟩

/-- Settles O31: a taken jump is the unconditional one, of the same count. -/
theorem conditionalJumps : Obligations.ConditionalJumps := by
  intro k s a u
  rw [exec_jpIf, exec_jrIf, jpIf, jrIf]
  refine ⟨decodesAs_jpIf k a, decodesAs_jrIf k u, fun taken => ?taken, fun notTaken => ?notTaken⟩
  case taken =>
    rw [ite_condHolds_taken taken, ite_condHolds_taken taken]
    exact ⟨done_jump s a 16, done_jumpBy s u 12⟩
  case notTaken =>
    rw [ite_condHolds_notTaken notTaken, ite_condHolds_notTaken notTaken]
    exact ⟨done_eq s 12, done_eq s 8⟩

/-- Settles O32: `RST` is a call whose target stands in the opcode. -/
theorem calls : Obligations.Calls := by
  intro s
  refine ⟨fun a => ⟨decodesAs_three rfl (fun _ _ => rfl) a, done_call_callsTo s a 24⟩,
    fun y => ⟨decodesAs_rst y, ?_⟩⟩
  rw [exec_rst, rst]
  exact done_call_callsTo s (rstTarget y) 16

/-- Settles O33: a taken call is the unconditional one, of the same count. -/
theorem conditionalCalls : Obligations.ConditionalCalls := by
  intro k s a
  rw [exec_callIf, callIf]
  refine ⟨decodesAs_callIf k a, fun taken => ?taken, fun notTaken => ?notTaken⟩
  case taken =>
    rw [ite_condHolds_taken taken]
    exact done_call_callsTo s a 24
  case notTaken =>
    rw [ite_condHolds_notTaken notTaken]
    exact done_eq s 12

/-- Settles O35: a taken return is the unconditional one, of a greater count. -/
theorem conditionalReturns : Obligations.ConditionalReturns := by
  intro k s
  rw [exec_retIf, retIf]
  refine ⟨decodesAs_retIf k, fun taken => ?taken, fun notTaken => ?notTaken⟩
  case taken =>
    rw [ite_condHolds_taken taken]
    exact done_ret s 20
  case notTaken =>
    rw [ite_condHolds_notTaken notTaken]
    exact done_eq s 8

end Sys2Proof.Machine
end

section
/-! The encoder undoes the decoder and the decoder the encoder (30_encoding.md R170 to R182), and the row of 0xCB alone
(46_system.md R356). -/

namespace Sys2Proof.Machine

/-- The operand bytes of an instruction of `length` bytes: none, one byte, or a word with its low byte first (R172). -/
def operandBytes (length : Nat) (n : Byte) (w : Word) : List Byte :=
  match length with
  | 1 => []
  | 2 => [n]
  | _ => [w.lo, w.hi]

theorem operandBytes_word (lo hi : Byte) : operandBytes 3 lo (Word.ofBytes hi lo) = [lo, hi] := by
  simp only [operandBytes, ofBytes_lo, ofBytes_hi]

/-- The primary table row by row: the encoder gives a decoded row its byte 0 back, and as many operand bytes as that byte
announces (R173). -/
theorem encode_decodePrimary (op n hi : Byte) :
    encode (decodePrimary op n hi) = op :: operandBytes (opLength op) n (Word.ofBytes hi n) := by
  have row : ∀ k : Fin 256, encode (decodePrimary (BitVec.ofFin k) n hi) =
      BitVec.ofFin k :: operandBytes (opLength (BitVec.ofFin k)) n (Word.ofBytes hi n) := by
    intro k
    fin_cases k <;> rfl
  exact row op.toFin

theorem encode_decodeCb : ∀ o : Byte, encode (decodeCb o) = [0xCB#8, o] := by decide

theorem encode_decodeBytes (b0 b1 b2 : Byte) :
    encode (decodeBytes b0 b1 b2) = b0 :: operandBytes (opLength b0) b1 (Word.ofBytes b2 b1) := by
  unfold decodeBytes
  split
  next h => rw [h, encode_decodeCb]; rfl
  next => exact encode_decodePrimary b0 b1 b2

/-- What the decoder takes off a list are the bytes of the instruction it finds. -/
theorem exists_bytes_of_decode {bytes rest : List Byte} {i : Instr} (h : decode bytes = .ok (i, rest)) :
    ∃ b0 b1 b2, i = decodeBytes b0 b1 b2 ∧ encode i ++ rest = bytes := by
  unfold decode at h
  split at h
  next => cases h
  next b0 tail =>
    split at h
    next len =>
      cases h
      exact ⟨b0, 0x00#8, 0x00#8, rfl, by rw [encode_decodeBytes, len]; rfl⟩
    next b1 tail len =>
      cases h
      exact ⟨b0, b1, 0x00#8, rfl, by rw [encode_decodeBytes, len]; rfl⟩
    next b1 b2 tail len =>
      cases h
      exact ⟨b0, b1, b2, rfl, by rw [encode_decodeBytes, len, operandBytes_word]; rfl⟩
    next => cases h

/-- Only the row `PREFIX CB` is no instruction by itself (R356). -/
theorem wf_iff (i : Instr) : i.wf = true ↔ ∀ o, i ≠ .prefixCb o := by
  constructor
  · rintro h o rfl
    cases h
  · intro h
    cases i
    case prefixCb o => exact absurd rfl (h o)
    all_goals rfl

theorem decodeCb_wf : ∀ o : Byte, (decodeCb o).wf = true := by decide

/-- The decoder of a stream gives no bare prefix: the primary table has it at 0xCB alone. -/
theorem decodeBytes_wf (b0 b1 b2 : Byte) : (decodeBytes b0 b1 b2).wf = true := by
  unfold decodeBytes
  split
  next => exact decodeCb_wf b1
  next hb =>
    refine (wf_iff _).2 fun o ho => hb ?_
    have henc := encode_decodePrimary b0 b1 b2
    rw [ho] at henc
    exact (List.cons.inj henc).1.symm

/-- The meaning of the bare prefix is the one of the instruction its operand selects (R356). -/
theorem exec_decodeCb (o : Byte) (s : State) : exec (decodeCb o) s = exec (.prefixCb o) s := by
  show exec (decodeCb o) s = cbOp o s
  unfold decodeCb cbOp
  generalize opX o = x
  match x with
  | 0 => exact exec_rot _ _ s
  | 1 => exact exec_bit _ _ s
  | 2 => exact exec_res _ _ s
  | _ + 3 => exact exec_set _ _ s

/-- No instruction faults or is refused. -/
theorem exec_next (i : Instr) (s : State) : ∃ t, exec i s = .next t := by
  obtain ⟨l, c, n, h, -⟩ | ⟨op, h⟩ := exec_effect i s
  · exact ⟨_, h⟩
  · exact ⟨_, h⟩

/-- Settles O2: the instructions with a word operand have it rejoined from its two bytes (`decodesAs_three`); for every other
one the decoder computes it. -/
theorem encodeThenDecode : Obligations.EncodeThenDecode := by
  intro i rest hwf
  cases i
  case prefixCb => cases hwf
  case ld_BC_n16 w | ld_DE_n16 w | ld_HL_n16 w | ld_SP_n16 w | ld_atA16_SP w | ld_atA16_A w | ld_A_atA16 w | jp_a16 w |
      jp_NZ_a16 w | jp_Z_a16 w | jp_NC_a16 w | jp_C_a16 w | call_a16 w | call_NZ_a16 w | call_Z_a16 w | call_NC_a16 w |
      call_C_a16 w =>
    exact decodesAs_three rfl (fun _ _ => rfl) w rest
  all_goals rfl

/-- Settles O3: the decoder takes as many bytes as byte 0 announces, and the encoder gives as many. -/
theorem decodeThenEncode : Obligations.DecodeThenEncode := by
  intro bytes i rest h
  obtain ⟨b0, b1, b2, rfl, hbytes⟩ := exists_bytes_of_decode h
  exact ⟨decodeBytes_wf b0 b1 b2, hbytes⟩

/-- Settles O4: the prefix runs the secondary table's operations, and so does each instruction of that table. -/
theorem prefixSelects : Obligations.PrefixSelects := by
  intro o s
  obtain ⟨t, ht⟩ := exec_next (.prefixCb o) s
  exact ⟨decodesAs_two rfl rfl, t, ht, (exec_decodeCb o s).trans ht⟩

/-- Settles O1: the decoder is run on each word. -/
theorem decodedWords : Obligations.DecodedWords := by
  unfold Obligations.DecodedWords
  and_intros <;> rfl

end Sys2Proof.Machine
end

section
/-! What a step can do (60_exceptions.md R370 to R373): the instruction it fetches, the wake test, and the CPU part with what
follows it. -/

namespace Sys2Proof.Machine

open State

/-! ### Fetching (R106, R173) -/

/-- Different instructions have different bytes. -/
theorem encode_injective {i j : Instr} (hi : i.wf = true) (hj : j.wf = true) (h : encode i = encode j) : i = j := by
  have di := encodeThenDecode i [] hi
  rw [h, encodeThenDecode j [] hj] at di
  cases di
  rfl

theorem opLength_cases : ∀ b : Byte, opLength b = 1 ∨ opLength b = 2 ∨ opLength b = 3 := by decide

/-- The bytes of an instruction at PC are fetched as that instruction, and PC passes all of them. -/
theorem fetched_of_bytes {s : State} {i : Instr} (hwf : i.wf = true)
    (hbytes : ∀ k (h : k < (encode i).length), s.read (s.cpu.pc + BitVec.ofNat 16 k) = (encode i)[k]) :
    s.fetched = i ∧ s.fetchedLength = (encode i).length := by
  obtain ⟨b0, b1, b2, hi, -⟩ := exists_bytes_of_decode (encodeThenDecode i [] hwf)
  have henc : encode i = _ := hi ▸ encode_decodeBytes b0 b1 b2
  have hfetch : encode s.fetched = _ := encode_decodeBytes _ _ _
  have h0 : s.read s.cpu.pc = b0 := by simpa [henc] using hbytes 0 (by simp [henc])
  have same (h : encode s.fetched = encode i) : s.fetched = i := encode_injective (decodeBytes_wf _ _ _) hwf h
  unfold fetchedLength
  rw [h0] at hfetch ⊢
  rcases opLength_cases b0 with len | len | len <;> rw [len] at henc hfetch ⊢
  case inl => exact ⟨same (by rw [hfetch, henc]; rfl), by rw [henc]; rfl⟩
  case inr.inl =>
    have h1 : s.read (s.cpu.pc + 1#16) = b1 := by simpa [henc, operandBytes] using hbytes 1 (by simp [henc, operandBytes])
    exact ⟨same (by rw [hfetch, henc, h1]; rfl), by rw [henc]; rfl⟩
  case inr.inr =>
    rw [operandBytes_word] at henc hfetch
    have h1 : s.read (s.cpu.pc + 1#16) = b1 := by simpa [henc] using hbytes 1 (by simp [henc])
    have h2 : s.read (s.cpu.pc + 2#16) = b2 := by simpa [henc] using hbytes 2 (by simp [henc])
    exact ⟨same (by rw [hfetch, henc, h1, h2]), by rw [henc]; rfl⟩

theorem decodeBytes_illegal (o : IllegalOp) (b1 b2 : Byte) : decodeBytes o.opcode b1 b2 = .illegal o := by
  cases o <;> rfl

theorem opLength_illegal (o : IllegalOp) : opLength o.opcode = 1 := by
  cases o <;> rfl

/-! ### What follows the CPU part (R370, R372) -/

theorem afterCpu_of_not_faulted {u : State} (h : u.cpu.faulted = none) : u.afterCpu = u.lockstep := by
  rw [afterCpu, h]
  rfl

theorem next_afterCpu (u : State) :
    (.next u.afterCpu : Result) = if u.cpu.faulted.isSome then .next u else .next u.lockstep := by
  unfold afterCpu
  split <;> rfl

/-- The two ways a step ends. -/
theorem afterCpu_cases (u : State) :
    (u.cpu.faulted.isSome = true ∧ u.afterCpu = u) ∨ (u.cpu.faulted = none ∧ u.afterCpu = u.lockstep) := by
  unfold afterCpu
  cases u.cpu.faulted
  · exact .inr ⟨rfl, rfl⟩
  · exact .inl ⟨rfl, rfl⟩

/-! ### The wake test (R373) -/

/-- A machine that has a trigger bit set, or is not halted at all, steps as the one that is awake. -/
theorem step_eq_awake {s : State} (hwake : s.cpu.halted = true → s.irq.flags ≠ 0#5) :
    step s = step (s.onCpu fun c => { c with halted := false }) := by
  cases hh : s.cpu.halted
  case false =>
    have same : s.onCpu (fun c => { c with halted := false }) = s := by rw [← hh]; rfl
    rw [same]
  case true =>
    have hs : s.wake = s.onCpu fun c => { c with halted := false } := by simp [wake, hh, hwake hh]
    have ht : (s.onCpu fun c => { c with halted := false }).wake = s.onCpu fun c => { c with halted := false } :=
      wake_of_awake rfl
    unfold step stepRunning cpuStep
    rw [hs, ht]
    rfl

/-- A step is the CPU part and what follows it (R370). -/
theorem step_of_cpuStep {s u : State} (hf : s.cpu.faulted = none) (h : s.cpuStep = .next u) :
    step s = .next u.afterCpu := by
  rw [step, hf]
  show mapNext afterCpu s.cpuStep = _
  rw [h, mapNext_next]

/-- A halted machine without a trigger bit waits (R352). -/
theorem step_asleep {s : State} (hf : s.cpu.faulted = none) (hh : s.cpu.halted = true) (hi : s.irq.flags = 0#5) :
    step s = .next (s.report haltedCycles).lockstep := by
  have hs : s.wake = s := by simp [wake, hi]
  have hcpu : s.cpuStep = .next (s.report haltedCycles) := by simp [cpuStep, hs, hh]
  rw [step_of_cpuStep hf hcpu, afterCpu_of_not_faulted (u := s.report haltedCycles) hf]

/-! ### The instruction between `ime_pending` before and after it (R373) -/

/-- The CPU part of a machine that is awake, by what the instruction answers. -/
theorem cpuStep_of_exec {s t : State} (hh : s.cpu.halted = false)
    (hexec : exec s.fetched (s.beginInstr s.fetchedLength) = .next t) :
    s.cpuStep = .next (endInstr s.fetched s.cpu.imePending t) := by
  unfold cpuStep
  rw [wake_of_awake hh, if_neg (by simp [hh]), runInstr, hexec, mapNext_next]

theorem step_of_exec {s t : State} (hf : s.cpu.faulted = none) (hh : s.cpu.halted = false)
    (hexec : exec s.fetched (s.beginInstr s.fetchedLength) = .next t) :
    step s = .next (endInstr s.fetched s.cpu.imePending t).afterCpu :=
  step_of_cpuStep hf (cpuStep_of_exec hh hexec)

theorem endInstr_eq (i : Instr) (p : Bool) (t : State) :
    endInstr i p t = if t.cpu.faulted.isSome then t.onCpu fun c => { c with imePending := p }
      else if p = true ∧ i ≠ .di then t.onCpu fun c => { c with ime := true } else t := by
  have hdi : ((p && !isDi i) = true) = (p = true ∧ i ≠ .di) := by
    rw [Bool.and_eq_true, Bool.not_eq_true', Bool.eq_false_iff, ne_eq, ne_eq, isDi_iff]
  unfold endInstr
  simp only [hdi]

theorem endInstr_of_not_pending {i : Instr} {t : State} (hf : t.cpu.faulted = none) : endInstr i false t = t := by
  simp [endInstr_eq, hf]

theorem endInstr_of_pending {i : Instr} {t : State} (hf : t.cpu.faulted = none) (hdi : i ≠ .di) :
    endInstr i true t = t.onCpu fun c => { c with ime := true } := by
  simp [endInstr_eq, hf, hdi]

theorem endInstr_faulted (i : Instr) (p : Bool) (t : State) : (endInstr i p t).cpu.faulted = t.cpu.faulted := by
  rw [endInstr_eq]
  split
  · rfl
  · split <;> rfl

/-- An instruction turns IME on by itself only if it is `RETI`, and the delayed enable only if it was pending (R339, R354). -/
theorem runInstr_ime {s u : State} {i : Instr} {n : Nat} (h : s.runInstr i n = .next u) (hime : u.cpu.ime = true) :
    s.cpu.ime = true ∨ s.cpu.imePending = true ∨ i = .reti := by
  unfold runInstr at h
  obtain ⟨l, c, m, e, ok⟩ | ⟨op, e⟩ := exec_effect i (s.beginInstr n)
  all_goals
    rw [e, mapNext_next] at h
    cases h
  case inl =>
    cases hp : s.cpu.imePending
    case true => exact .inr (.inl rfl)
    case false =>
      rw [hp] at hime
      have hc : c.ime = true := by
        unfold endInstr at hime
        split at hime <;> exact hime
      exact (ok.ime hc).imp id .inr
  case inr => exact .inl hime

/-- The step of an illegal opcode ends with the Faulted condition (R372). -/
theorem step_illegal {s : State} {o : IllegalOp} (hf : s.cpu.faulted = none) (hh : s.cpu.halted = false)
    (hop : s.read s.cpu.pc = o.opcode) :
    step s = .next { s with cpu := { s.cpu with
      pc := s.cpu.pc + 1#16, faulted := some { opcode := o.opcode, address := s.cpu.pc }, halted := false } } := by
  have hfetched : s.fetched = .illegal o := by rw [fetched, hop, decodeBytes_illegal]
  have hlength : s.fetchedLength = 1 := by rw [fetchedLength, hop, opLength_illegal]
  rw [step_of_exec hf hh (by rw [hfetched]; exact exec_illegal o _), hlength]
  show Host.Outcome.next { s with cpu := { s.cpu with
    pc := s.cpu.pc + 1#16, halted := false
    faulted := some { opcode := o.opcode, address := s.cpu.pc + 1#16 - 1#16 } } } = _
  rw [BitVec.add_sub_cancel]

/-! ### The whole step -/

/-- The CPU part of a machine that wakes is a CPU part of the machine before the wake test. -/
theorem State.CpuPart.of_wake {s u : State} (h : CpuPart s.wake u) : CpuPart s u := by
  obtain ⟨w, hw⟩ := wake_eq s
  rw [hw] at h
  exact ⟨h.cart, h.config, fun m => h.memory ⟨m.rom, m.vram, m.wram, m.oam, m.hram, m.io, m.bgPal, m.objPal, m.eram⟩,
    h.hdma, ⟨h.line.ly, h.line.acc⟩, h.flags, h.faulted, h.counts⟩

/-- A wait is a CPU part of four cycles (R352). -/
theorem State.CpuPart.wait {s : State} (hf : s.cpu.faulted = none) : CpuPart s (s.report haltedCycles) where
  cart := rfl
  config := rfl
  memory m := ⟨m.rom, m.vram, m.wram, m.oam, m.hram, m.io, m.bgPal, m.objPal, m.eram⟩
  hdma := id
  line := ⟨rfl, rfl⟩
  flags := id
  faulted h := by
    rw [report_cpu, hf] at h
    cases h
  counts _ := ⟨0, 0, rfl, rfl⟩

/-- A step is a CPU part, and then the lock-step unless it faulted. -/
theorem exists_cpuPart_of_step {s t : State} (h : step s = .next t) : ∃ u, CpuPart s u ∧ t = u.afterCpu := by
  obtain ⟨hf, ⟨-, rfl⟩ | ⟨-, u, hrun, rfl⟩⟩ := step_cases h
  all_goals
    have hfw : s.wake.cpu.faulted = none := by
      obtain ⟨w, hw⟩ := wake_eq s
      rw [hw]
      exact hf
  case inl =>
    refine ⟨_, (CpuPart.wait hfw).of_wake, ?_⟩
    rw [afterCpu, report_cpu, hfw]
    rfl
  case inr => exact ⟨u, (runInstr_part hrun hfw).of_wake, rfl⟩

/-- The CPU part keeps the invariant. -/
theorem State.CpuPart.inv {s u : State} (h : CpuPart s u) (hs : s.Inv) : u.Inv where
  flags := h.flags hs.flags
  memory := h.memory hs.memory
  ppu := by
    unfold PpuOk
    rw [h.line.ly, h.line.acc]
    exact hs.ppu
  hdma := h.hdma hs.hdma
  fault := h.faulted

/-- The lock-step keeps the invariant, and it never faults. -/
theorem lockstep_inv {s : State} (hs : s.Inv) (hf : s.cpu.faulted = none) : s.lockstep.Inv := by
  obtain ⟨h, -⟩ := lockstep_around s
  exact
    { flags := by
        unfold FlagsOk
        rw [h.f]
        exact hs.flags
      memory := h.memory hs.memory
      ppu := h.ppu hs.ppu
      hdma := h.hdma hs.hdma
      fault := fun hfault => by
        rw [h.faulted, hf] at hfault
        cases hfault }

end Sys2Proof.Machine
end

section
/-! The statements about the step and the interrupts (60_exceptions.md, 46_system.md), and the invariant of every step. -/

namespace Sys2Proof.Machine

open State

/-- Settles O59: the CPU part keeps the invariant, and so does the lock-step that follows one that did not fault. -/
theorem invariantKept : Obligations.InvariantKept := by
  intro s t hs hstep
  obtain ⟨u, hpart, rfl⟩ := exists_cpuPart_of_step hstep
  obtain ⟨-, h⟩ | ⟨hf, h⟩ := afterCpu_cases u <;> rw [h]
  · exact hpart.inv hs
  · exact lockstep_inv (hpart.inv hs) hf

/-- Settles O55: both parts of a step keep the cartridge and the parameters. -/
theorem cartridgeNeverChanges : Obligations.CartridgeNeverChanges := by
  intro s t hstep
  obtain ⟨u, hpart, rfl⟩ := exists_cpuPart_of_step hstep
  obtain ⟨-, h⟩ | ⟨-, h⟩ := afterCpu_cases u <;> rw [h]
  · exact ⟨hpart.cart, hpart.config⟩
  · obtain ⟨haround, -⟩ := lockstep_around u
    exact ⟨haround.cart.trans hpart.cart, haround.config.trans hpart.config⟩

/-- Settles O60: an instruction counts fours, a chunk carries eight, and a dispatch carries its parameter. -/
theorem stepCountsAreMultiplesOfFour : Obligations.StepCountsAreMultiplesOfFour := by
  intro s t hstep hfaulted hdispatch hcarry
  obtain ⟨u, hpart, rfl⟩ := exists_cpuPart_of_step hstep
  obtain ⟨hsome, h⟩ | ⟨hnone, h⟩ := afterCpu_cases u <;> rw [h] at hfaulted ⊢
  · rw [hfaulted] at hsome
    cases hsome
  · obtain ⟨k, m, hk, hm⟩ := hpart.counts hnone
    obtain ⟨haround, hcycles⟩ := lockstep_around u
    obtain ⟨j, hj⟩ := haround.carried
    rw [hpart.config] at hj
    simp only [hdmaChunkCycles] at hk hj
    omega

/-- Settles O43: with IME off the lock-step leaves it off, so the instruction's part has turned it on. -/
theorem onlyRetiAndEiEnable : Obligations.OnlyRetiAndEiEnable := by
  intro s t hstep hoff hon
  obtain ⟨w, hw⟩ := wake_eq s
  obtain ⟨-, ⟨-, rfl⟩ | ⟨-, u, hrun, rfl⟩⟩ := step_cases hstep
  case inl =>
    have hwait : (s.wake.report haltedCycles).cpu.ime = false := by
      rw [hw]
      exact hoff
    rw [lockstep_cpu hwait, hwait] at hon
    cases hon
  case inr =>
    have hu : u.cpu.ime = true := by
      by_contra hnot
      obtain ⟨-, h⟩ | ⟨-, h⟩ := afterCpu_cases u <;> rw [h] at hon
      · exact hnot hon
      · rw [lockstep_cpu (Bool.eq_false_iff.2 hnot)] at hon
        exact hnot hon
    have hcases := runInstr_ime hrun hu
    rw [hw] at hcases
    exact hcases.resolve_left (by simp [hoff])

/-- Settles O39: the bytes at PC are fetched as that instruction, and no instruction is refused. -/
theorem stepRunsTheInstruction : Obligations.StepRunsTheInstruction := by
  intro s i hfaulted hawake hwf hbytes
  obtain ⟨hfetched, hlength⟩ := fetched_of_bytes hwf hbytes
  obtain ⟨t, ht⟩ := exec_next i (s.beginInstr (encode i).length)
  rw [step_of_exec hfaulted hawake (by rw [hfetched, hlength]; exact ht), hfetched]
  unfold beginInstr at ht
  rw [ht]
  rw [endInstr_eq, next_afterCpu]
  rfl

/-- Settles O38: the machine is awake once the wake test has run, and its instruction faults. -/
theorem illegalStepFaults : Obligations.IllegalStepFaults := by
  intro o s hfaulted hwake hop
  refine ⟨_, ?_, rfl, rfl⟩
  rw [step_eq_awake hwake]
  exact step_illegal (s := s.onCpu fun c => { c with halted := false }) hfaulted rfl hop

/-- Settles O40: asleep it waits, and waking changes `halted` alone. -/
theorem haltWaits : Obligations.HaltWaits := by
  intro s hfaulted hhalted
  exact ⟨fun hflags => step_asleep hfaulted hhalted hflags, fun hflags => step_eq_awake fun _ => hflags⟩

/-- Settles O41: `EI` sets `ime_pending` alone, with IME off the lock-step leaves the CPU, and `endInstr` is the delayed
enable. -/
theorem enableIsDelayed : Obligations.EnableIsDelayed := by
  intro s i t hwf hdi hfaulted hawake
  constructor
  case left =>
    intro hime hpending hei
    obtain ⟨u, hexec, hu, huime, hupending⟩ : ∃ u, exec s.fetched (s.beginInstr s.fetchedLength) = .next u ∧
        u.cpu.faulted = none ∧ u.cpu.ime = false ∧ u.cpu.imePending = true := by
      rw [hei]
      exact ⟨_, rfl, hfaulted, hime, rfl⟩
    refine ⟨_, step_of_exec hfaulted hawake hexec, ?_⟩
    rw [hpending, endInstr_of_not_pending hu, afterCpu_of_not_faulted hu, lockstep_cpu huime]
    exact ⟨huime, hupending⟩
  case right =>
    rintro hpending rfl hcpu hnone
    obtain ⟨u, hexec⟩ := exec_next s.fetched (s.beginInstr s.fetchedLength)
    rw [cpuStep_of_exec hawake hexec, hpending] at hcpu
    cases hcpu
    rw [endInstr_faulted] at hnone
    rw [step_of_exec hfaulted hawake hexec, hpending, endInstr_of_pending hnone hdi]
    exact ⟨rfl, congrArg _ (afterCpu_of_not_faulted hnone)⟩

/-- The lowest set bit (R381, R383). -/
theorem lowestSource_eq_some : ∀ (m : BitVec 5) (k : Fin 5), m.getLsbD k.val = true →
    (∀ j : Fin 5, j < k → m.getLsbD j.val = false) → lowestSource m = some k := by decide

/-- Settles O42: the check takes the lowest pending source, by a push of PC. -/
theorem interruptsDispatch : Obligations.InterruptsDispatch := by
  refine ⟨fun s h => ?idle, fun s k hime hk hlow => ?taken⟩
  case idle =>
    unfold interruptCheck
    obtain h | h := h
    · simp [h]
    · have hnone : lowestSource s.pending = none := by
        unfold pending
        rw [h]
        rfl
      simp [hnone]
  case taken =>
    have hu : s.interruptCheck = s.takeInterrupt k := by
      unfold interruptCheck
      rw [if_pos hime, show lowestSource s.pending = some k from lowestSource_eq_some _ k hk hlow]
    have hvector : ∀ k : Fin 5, interruptVector k = BitVec.ofNat 16 (0x0040 + 8 * k.val) := by decide
    have hclear : ∀ (flags : BitVec 5) (k j : Fin 5),
        (flags &&& ~~~(1#5 <<< k.val)).getLsbD j.val = (flags.getLsbD j.val && decide (j ≠ k)) := by decide
    have hstores := storesTwo_push16 s s.cpu.pc
    rw [hu]
    refine ⟨?_, fun j => hclear _ k j, rfl, ?_, rfl, storesTwo_cpu hstores _ _⟩
    · rw [takeInterrupt_cpu, hvector]
    · show _ + (s.push16 s.cpu.pc).config.intDispatchCycles = _
      rw [hstores.config]
      rfl

end Sys2Proof.Machine
end

section
/-! The statements about single instructions that the other families leave: registers, returns, system instructions, and
`ADD` followed by `DAA` (10_state.md, 45_control.md, 46_system.md, 42_alu8.md). -/

namespace Sys2Proof.Machine

open State

/-- When `DAA` corrects a digit of a sum, by the sums of the high and of the low digits of the two numbers. -/
theorem corrections_of_digits {tens ones : Nat} (ht : tens ≤ 18) (ho : ones ≤ 18) :
    ((ones > 15 ∨ (16 * tens + ones) % 256 % 16 > 9) ↔ ones > 9) ∧
    ((16 * tens + ones > 255 ∨ (16 * tens + ones) % 256 > 0x99) ↔ 10 * tens + ones ≥ 100) := by
  have hmod : (16 * tens + ones) % 256 % 16 = ones % 16 := by omega
  rw [hmod]
  constructor <;> omega

/-- Two numbers in BCD: `ADD` leaves the sums of the digits and the carries out of them, and `DAA` corrects each digit that is
above 9 or carried. -/
theorem daa8_add8 {a b : Byte} {x y : Nat} (hx : x < 100) (hy : y < 100) (ha : a.toNat = x / 10 * 16 + x % 10)
    (hb : b.toNat = y / 10 * 16 + y % 10) :
    (daa8 (add8 a b false).value (add8 a b false).flags).value.toNat = (x + y) % 100 / 10 * 16 + (x + y) % 10 ∧
    (cf (daa8 (add8 a b false).value (add8 a b false).flags).flags = true ↔ x + y ≥ 100) := by
  obtain ⟨hsum, hflags⟩ := add8_spec a b false
  rw [Bool.toNat_false] at hsum hflags
  generalize (add8 a b false).value = v at *
  generalize (add8 a b false).flags = f at *
  have hn : nf f = false := Bool.eq_false_iff.2 hflags.n.1
  have hcarry := (daa8_flags v f).c
  have hlow := daaLow_iff v f
  have hhigh := daaHigh_iff v f
  rw [hn, hflags.c, hsum] at hcarry hhigh
  rw [hn, hflags.h, hsum] at hlow
  have hvalue := daa8_toNat v f
  rw [hn, if_neg Bool.false_ne_true, hsum] at hvalue
  -- the sums of the high and of the low digits
  obtain ⟨tens, htens⟩ : ∃ tens, tens = x / 10 + y / 10 := ⟨_, rfl⟩
  obtain ⟨ones, hones⟩ : ∃ ones, ones = x % 10 + y % 10 := ⟨_, rfl⟩
  have hab : a.toNat + b.toNat + 0 = 16 * tens + ones := by omega
  have hxy : x + y = 10 * tens + ones := by omega
  have hdigits : a.toNat % 16 + b.toNat % 16 + 0 = ones := by omega
  have hmax : tens ≤ 18 ∧ ones ≤ 18 := by omega
  rw [hab] at hlow hhigh hvalue
  rw [hdigits] at hlow
  rw [hxy]
  have hlow' : daaLow v f = true ↔ ones > 9 := by
    rw [hlow, eq_self, true_and, (corrections_of_digits hmax.1 hmax.2).1]
  have hhigh' : daaHigh v f = true ↔ 10 * tens + ones ≥ 100 := by
    rw [hhigh, eq_self, true_and, (corrections_of_digits hmax.1 hmax.2).2]
  obtain ⟨both, lowOnly, highOnly, neither⟩ := daaAdjustment_cases hlow' hhigh'
  refine ⟨?_, by rw [hcarry, hab, ← hhigh, hhigh']⟩
  rw [hvalue]
  by_cases hl : ones > 9 <;> by_cases hh : 10 * tens + ones ≥ 100
  · rw [both hl hh]
    omega
  · rw [lowOnly hl hh]
    omega
  · rw [highOnly hl hh]
    omega
  · rw [neither hl hh]
    omega

/-- The seven registers are cells of their own (R11, R20). -/
theorem get8_set8 (s : State) (v : Byte) {r q : R8} (hr : r ≠ .atHL) (hq : q ≠ .atHL) :
    (s.set8 r v).get8 q = if q = r then v else s.get8 q := by
  cases r
  case atHL => exact absurd rfl hr
  all_goals
    cases q
    case atHL => exact absurd rfl hq
    all_goals rfl

/-- Settles O5: each register is a field of its own, and a pair is its two halves. -/
theorem registerFile : Obligations.RegisterFile := by
  intro s v w
  refine ⟨fun r hr => ⟨(get8_set8 s v hr hr).trans (if_pos rfl), fun q hq hmem => (get8_set8 s v hr hmem).trans (if_neg hq),
    ?frame⟩, rfl, rfl, rfl, rfl, fun p => Cpu.getRp_setRp s.cpu p w⟩
  cases r
  case atHL => exact absurd rfl hr
  all_goals rfl

/-- Settles O34: `RETI` is `RET` with IME set. -/
theorem returns : Obligations.Returns := by
  intro s
  exact ⟨⟨decodesAs_one rfl rfl, done_ret s 16⟩, ⟨decodesAs_one rfl rfl, rfl⟩⟩

/-- Settles O36: each is one change of the CPU, or none, and four cycles. -/
theorem systemInstructions : Obligations.SystemInstructions := by
  intro s n
  exact ⟨⟨decodesAs_one rfl rfl, done_eq s 4⟩, ⟨decodesAs_two rfl rfl, done_eq s 4⟩, ⟨decodesAs_one rfl rfl, rfl⟩,
    ⟨decodesAs_one rfl rfl, rfl⟩, ⟨decodesAs_one rfl rfl, rfl⟩⟩

/-- Settles O37: the eleven opcodes share one meaning. -/
theorem illegalOpcodesFault : Obligations.IllegalOpcodesFault := by
  intro o s
  exact ⟨decodesAs_one (opLength_illegal o) (decodeBytes_illegal o _ _), exec_illegal o s⟩

/-- Settles O21: `DAA` gets the result and the flags of `ADD`, as `daa8_add8` has them. -/
theorem decimalAdditionIsRight : Obligations.DecimalAdditionIsRight := by
  intro s t u x y hx hy ha hb hadd hdaa
  cases hadd
  cases hdaa
  exact daa8_add8 hx hy ha hb

end Sys2Proof.Machine
end

section
/-! The timer's tick as numbers (60_exceptions.md R390): quotients and remainders of the two periods, and TIMA's increments as
an iterated count of the pair of TIMA and the trigger bits. -/

namespace Sys2Proof.Machine

open State

/-- One increment of TIMA, with the trigger bits: past 0xFF it continues from TMA and sets bit 2. -/
def timaCount (tma : Byte) (p : Byte × BitVec 5) : Byte × BitVec 5 :=
  if p.1 = 0xFF#8 then (tma, p.2 ||| 1#5 <<< 2) else (p.1 + 1#8, p.2)

/-- How many increments a tick holds, and what the sub-counter keeps; while TAC bit 2 is 0, none and all of it. -/
def timaPeriods (tac : BitVec 3) (sub cyc : Nat) : Nat × Nat :=
  if tac.getLsbD 2 then ((sub + cyc) / timaPeriod (tac.extractLsb' 0 2), (sub + cyc) % timaPeriod (tac.extractLsb' 0 2))
  else (0, sub)

/-- TIMA and the trigger bits after a tick. -/
def timaTicked (s : State) (cyc : Nat) : Byte × BitVec 5 :=
  (timaCount s.timer.tma)^[(timaPeriods s.timer.tac s.timer.timaSub cyc).1] (s.timer.tima, s.irq.flags)

theorem timaPeriods_on {tac : BitVec 3} (h : tac.getLsbD 2 = true) (sub cyc : Nat) :
    timaPeriods tac sub cyc =
      ((sub + cyc) / timaPeriod (tac.extractLsb' 0 2), (sub + cyc) % timaPeriod (tac.extractLsb' 0 2)) := if_pos h

theorem timaPeriods_off {tac : BitVec 3} (h : tac.getLsbD 2 = false) (sub cyc : Nat) :
    timaPeriods tac sub cyc = (0, sub) := if_neg (Bool.eq_false_iff.1 h)

theorem div_add_mod_add_div (m b p : Nat) : m / p + (m % p + b) / p = (m + b) / p := by
  rcases Nat.eq_zero_or_pos p with rfl | hp
  · simp
  · calc m / p + (m % p + b) / p = (p * (m / p) + (m % p + b)) / p := (Nat.mul_add_div hp _ _).symm
      _ = (m + b) / p := by rw [← Nat.add_assoc, Nat.div_add_mod]

/-- Two ticks hold the increments of one tick of the sum, and keep the same remainder. -/
theorem timaPeriods_add (tac : BitVec 3) (sub a b : Nat) :
    (timaPeriods tac sub a).1 + (timaPeriods tac (timaPeriods tac sub a).2 b).1 = (timaPeriods tac sub (a + b)).1 ∧
    (timaPeriods tac (timaPeriods tac sub a).2 b).2 = (timaPeriods tac sub (a + b)).2 := by
  cases h : tac.getLsbD 2
  case false => simp only [timaPeriods_off h, Nat.add_zero, and_self]
  case true =>
    simp only [timaPeriods_on h]
    exact ⟨by rw [div_add_mod_add_div, Nat.add_assoc], by rw [Nat.mod_add_mod, Nat.add_assoc]⟩

theorem timaIncrement_count (s : State) :
    s.timaIncrement = { s with
      timer := { s.timer with tima := (timaCount s.timer.tma (s.timer.tima, s.irq.flags)).1 }
      irq := { s.irq with flags := (timaCount s.timer.tma (s.timer.tima, s.irq.flags)).2 } } := by
  unfold timaIncrement timaCount
  dsimp only
  split <;> rfl

theorem timaIncrements_count (n : Nat) (s : State) :
    timaIncrements n s = { s with
      timer := { s.timer with tima := ((timaCount s.timer.tma)^[n] (s.timer.tima, s.irq.flags)).1 }
      irq := { s.irq with flags := ((timaCount s.timer.tma)^[n] (s.timer.tima, s.irq.flags)).2 } } := by
  induction n generalizing s with
  | zero => rfl
  | succ n ih => rw [timaIncrements, ih, timaIncrement_count, Function.iterate_succ_apply]

/-- A tick, field by field. -/
theorem timerTick_fields (s : State) (cyc : Nat) :
    s.timerTick cyc = { s with
      timer := { s.timer with
        div := s.timer.div + BitVec.ofNat 8 ((s.timer.divSub + cyc) / s.config.divPeriod)
        divSub := (s.timer.divSub + cyc) % s.config.divPeriod
        tima := (timaTicked s cyc).1
        timaSub := (timaPeriods s.timer.tac s.timer.timaSub cyc).2 }
      irq := { s.irq with flags := (timaTicked s cyc).2 } } := by
  unfold timerTick timaTick timaTicked timaPeriods divTick
  dsimp only
  split
  · rw [timaIncrements_count]
  · rfl

theorem timaTicked_add (s : State) (a b : Nat) : timaTicked (s.timerTick a) b = timaTicked s (a + b) := by
  rw [timerTick_fields]
  unfold timaTicked
  dsimp only
  rw [← (timaPeriods_add s.timer.tac s.timer.timaSub a b).1, Nat.add_comm (timaPeriods _ _ a).1,
    Function.iterate_add_apply]

theorem getLsbD_timerBit (k : Nat) : (1#5 <<< 2).getLsbD k = decide (k = 2) := by
  rw [show 1#5 <<< 2 = BitVec.twoPow 5 2 from rfl, BitVec.getLsbD_twoPow]
  simp [eq_comm]

/-- No trigger bit but bit 2 changes. -/
theorem timaCount_iterate_bit (tma : Byte) (n : Nat) (p : Byte × BitVec 5) {k : Nat} (hk : k ≠ 2) :
    ((timaCount tma)^[n] p).2.getLsbD k = p.2.getLsbD k := by
  induction n generalizing p with
  | zero => rfl
  | succ n ih =>
    rw [Function.iterate_succ_apply, ih]
    unfold timaCount
    split
    · rw [BitVec.getLsbD_or, getLsbD_timerBit, decide_eq_false hk, Bool.or_false]
    · rfl

/-- Below the overflow the increments add up. -/
theorem timaCount_iterate_lt (tma : Byte) {n : Nat} {p : Byte × BitVec 5} (h : n + p.1.toNat < 256) :
    (timaCount tma)^[n] p = (p.1 + BitVec.ofNat 8 n, p.2) := by
  induction n generalizing p with
  | zero => simp
  | succ n ih =>
    have hne : p.1 ≠ 0xFF#8 := by
      rintro e
      rw [e, BitVec.toNat_ofNat] at h
      omega
    have hnext : (p.1 + 1#8).toNat = p.1.toNat + 1 := by
      rw [BitVec.toNat_add]
      simp
      omega
    rw [Function.iterate_succ_apply, timaCount, if_neg hne, ih (by simp only [hnext]; omega)]
    simp only [BitVec.add_assoc, Prod.mk.injEq, and_true]
    rw [show n + 1 = 1 + n from Nat.add_comm n 1, BitVec.ofNat_add]

/-- At the overflow the count continues from TMA, with bit 2 set. -/
theorem timaCount_iterate_overflow (tma : Byte) {m : Nat} {p : Byte × BitVec 5} :
    (timaCount tma)^[m + (256 - p.1.toNat)] p = (timaCount tma)^[m] (tma, p.2 ||| 1#5 <<< 2) := by
  have hlt := p.1.isLt
  rw [Function.iterate_add_apply]
  congr 1
  rw [show 256 - p.1.toNat = 255 - p.1.toNat + 1 by omega, Function.iterate_succ_apply',
    timaCount_iterate_lt tma (by omega), timaCount, if_pos]
  apply BitVec.eq_of_toNat_eq
  simp
  omega

/-- Settles O44: quotients and remainders of consecutive ticks add up, and so do the increments of TIMA. -/
theorem timerLosesNoCycle : Obligations.TimerLosesNoCycle := by
  intro s a b cyc
  refine ⟨?sum, ?fields⟩
  case sum =>
    rw [timerTick_fields (s.timerTick a) b, timaTicked_add, timerTick_fields s a, timerTick_fields s (a + b)]
    dsimp only
    rw [(timaPeriods_add s.timer.tac s.timer.timaSub a b).2, Nat.mod_add_mod, Nat.add_assoc, BitVec.add_assoc,
      ← BitVec.ofNat_add, div_add_mod_add_div, Nat.add_assoc]
  case fields =>
    rw [timerTick_fields]
    refine ⟨rfl, fun k hk => timaCount_iterate_bit _ _ _ hk, fun _ => ⟨?div, rfl⟩, fun hoff => ?off, fun hon => ?on⟩
    case div =>
      dsimp only
      rw [BitVec.toNat_add, BitVec.toNat_ofNat, Nat.add_mod_mod]
    case off =>
      dsimp only [timaTicked]
      rw [timaPeriods_off hoff]
      exact ⟨rfl, rfl, rfl⟩
    case on =>
      dsimp only
      rw [timaPeriods_on hon]

/-- Settles O45: the increments add up below the overflow, and at it the count starts again from TMA. -/
theorem timaOverflows : Obligations.TimaOverflows := by
  refine ⟨by decide, fun s cyc n hon hn => ?_⟩
  have hticked : timaTicked s cyc = (timaCount s.timer.tma)^[n] (s.timer.tima, s.irq.flags) := by
    rw [timaTicked, timaPeriods_on hon, hn]
  rw [timerTick_fields, hticked]
  refine ⟨fun h => ?below, fun h h' => ?past⟩
  case below =>
    rw [timaCount_iterate_lt _ h]
    refine ⟨?_, rfl⟩
    dsimp only
    rw [BitVec.toNat_add, BitVec.toNat_ofNat]
    omega
  case past =>
    have hlt := s.timer.tima.isLt
    have hn : n = n + s.timer.tima.toNat - 256 + (256 - s.timer.tima.toNat) := by omega
    rw [hn, timaCount_iterate_overflow (p := (s.timer.tima, s.irq.flags)), ← hn,
      timaCount_iterate_lt _ (by dsimp only; omega)]
    refine ⟨?_, rfl⟩
    dsimp only
    rw [BitVec.toNat_add, BitVec.toNat_ofNat]
    omega

end Sys2Proof.Machine
end

section
/-! Completing a scanline (62_ppu.md R421, R422, R425, R470): the state in which the new line begins, the three ways it goes
on, and the trigger bits each part raises. -/

namespace Sys2Proof.Machine

namespace State

/-- The state in which the new line begins: one line's cycles are gone, the old line's H-Blank is over, and LY has moved on. -/
def lineBegun (s : State) : State :=
  let t := { s with ppu := { s.ppu with acc := s.ppu.acc - lineCycles } }
  (if s.ppu.ly.toNat < visibleLines then t.hblankEvent else t).nextLine

/-! ### The line begun -/

theorem lineBegun_work (s : State) : PpuWork s s.lineBegun :=
  (PpuWork.mk rfl id id ⟨0, rfl⟩ : PpuWork s { s with ppu := { s.ppu with acc := s.ppu.acc - lineCycles } }).tr
    ((PpuWork.ite _ _ hblankEvent (.hblankEvent _)).tr (.nextLine _))

theorem lineBegun_ppu (s : State) :
    s.lineBegun.ppu = { s.ppu with
      acc := s.ppu.acc - 456, ly := BitVec.ofNat 8 ((s.ppu.ly.toNat + 1) % linesPerFrame) } := by
  unfold lineBegun nextLine
  split <;> simp [lineCycles]

/-- The new line's number. -/
theorem lineBegun_ly (s : State) : s.lineBegun.ppu.ly.toNat = (s.ppu.ly.toNat + 1) % 154 := by
  rw [lineBegun_ppu, BitVec.toNat_ofNat, linesPerFrame]
  omega

/-- The three ways a line goes on after it has begun: it is rendered, it enters V-Blank, or neither. -/
theorem completeLine_cases (s : State) :
    ((s.lineBegun.ppu.ly.toNat < 144 ∧ s.ppu.lcdc.getLsbD 7 = true) ∧
      s.completeLine = (s.lineBegun.renderScanline s.lineBegun.ppu.ly.toNat).updateStat) ∨
    (s.lineBegun.ppu.ly.toNat = 144 ∧ s.completeLine = s.lineBegun.enterVBlank.updateStat) ∨
    ((s.lineBegun.ppu.ly.toNat ≠ 144 ∧ ¬(s.lineBegun.ppu.ly.toNat < 144 ∧ s.ppu.lcdc.getLsbD 7 = true)) ∧
      s.completeLine = s.lineBegun.updateStat) := by
  have hlcdc : s.lineBegun.ppu.lcdc = s.ppu.lcdc := by rw [lineBegun_ppu]
  have hline : s.completeLine =
      (let r := if s.lineBegun.ppu.ly.toNat < visibleLines ∧ s.lineBegun.ppu.lcdc.getLsbD 7 = true
        then s.lineBegun.renderScanline s.lineBegun.ppu.ly.toNat else s.lineBegun
       if r.ppu.ly.toNat = visibleLines then r.enterVBlank else r).updateStat := rfl
  rw [hlcdc] at hline
  unfold visibleLines at hline
  by_cases hr : s.lineBegun.ppu.ly.toNat < 144 ∧ s.ppu.lcdc.getLsbD 7 = true
  · refine .inl ⟨hr, ?_⟩
    rw [hline, if_pos hr]
    exact congrArg updateStat (if_neg (Nat.ne_of_lt hr.1))
  · rw [if_neg hr] at hline
    by_cases hv : s.lineBegun.ppu.ly.toNat = 144
    · exact .inr (.inl ⟨hv, hline.trans (congrArg updateStat (if_pos hv))⟩)
    · exact .inr (.inr ⟨⟨hv, hr⟩, hline.trans (congrArg updateStat (if_neg hv))⟩)

/-! ### Trigger bits -/

theorem raiseIf_flag (s : State) (c : Bool) (k : Fin 5) (j : Nat) :
    (s.raiseIf c k).irq.flags.getLsbD j = (s.irq.flags.getLsbD j || (c && decide (j = k.val))) := by
  have hbit : (1#5 <<< k.val).getLsbD j = decide (j = k.val) := by
    rw [← BitVec.twoPow_eq, BitVec.getLsbD_twoPow]
    have := k.isLt
    grind
  unfold raiseIf
  cases c
  · simp
  · simp [hbit]

theorem hblankEvent_flag (s : State) (j : Nat) :
    s.hblankEvent.irq.flags.getLsbD j = (s.irq.flags.getLsbD j || (s.ppu.statSel.getLsbD 0 && decide (j = 1))) := by
  have hchunk (t : State) : t.hblankChunk.irq = t.irq := by
    obtain ⟨vram, src, dst, len, active, h, -⟩ := hblankChunk_eq t
    rw [h]
  rw [hblankEvent_eq]
  split
  · rw [hchunk, raiseIf_flag]
    rfl
  · rw [raiseIf_flag]
    rfl

theorem lineBegun_flag (s : State) (j : Nat) :
    s.lineBegun.irq.flags.getLsbD j =
      (s.irq.flags.getLsbD j || (decide (s.ppu.ly.toNat < 144) && s.ppu.statSel.getLsbD 0 && decide (j = 1))) := by
  show (if s.ppu.ly.toNat < 144 then _ else _ : State).irq.flags.getLsbD j = _
  split
  next h => rw [hblankEvent_flag, decide_eq_true h, Bool.true_and]
  next h => rw [decide_eq_false h, Bool.false_and, Bool.false_and, Bool.or_false]

theorem enterVBlank_flag (s : State) (j : Nat) :
    s.enterVBlank.irq.flags.getLsbD j =
      (s.irq.flags.getLsbD j || (s.ppu.lcdc.getLsbD 7 && decide (j = 0)) ||
        (s.ppu.statSel.getLsbD 1 && decide (j = 1))) := by
  unfold enterVBlank
  rw [raiseIf_flag, raiseIf_flag]
  rfl

theorem updateStat_flag (s : State) (j : Nat) :
    s.updateStat.irq.flags.getLsbD j =
      (s.irq.flags.getLsbD j || ((s.ppu.ly == s.ppu.lyc) && s.ppu.statSel.getLsbD 3 && decide (j = 1)) ||
        (decide (s.ppu.ly.toNat < 144) && s.ppu.statSel.getLsbD 2 && decide (j = 1))) := by
  unfold updateStat
  rw [raiseIf_flag, raiseIf_flag]
  rfl

/-- The causes of R421, R422 and R425. -/
theorem completeLine_flag (s : State) (j : Nat) :
    s.completeLine.irq.flags.getLsbD j = true ↔
      s.irq.flags.getLsbD j = true ∨
      (j = 0 ∧ s.lineBegun.ppu.ly.toNat = 144 ∧ s.ppu.lcdc.getLsbD 7 = true) ∨
      (j = 1 ∧ ((s.ppu.statSel.getLsbD 0 = true ∧ s.ppu.ly.toNat < 144) ∨
        (s.ppu.statSel.getLsbD 1 = true ∧ s.lineBegun.ppu.ly.toNat = 144) ∨
        (s.ppu.statSel.getLsbD 2 = true ∧ s.lineBegun.ppu.ly.toNat < 144) ∨
        (s.ppu.statSel.getLsbD 3 = true ∧ s.lineBegun.ppu.ly.toNat = s.ppu.lyc.toNat))) := by
  have hsel : s.lineBegun.ppu.statSel = s.ppu.statSel := by rw [lineBegun_ppu]
  have hlyc : s.lineBegun.ppu.lyc = s.ppu.lyc := by rw [lineBegun_ppu]
  have hlcdc : s.lineBegun.ppu.lcdc = s.ppu.lcdc := by rw [lineBegun_ppu]
  have hco : (s.lineBegun.ppu.ly = s.ppu.lyc) ↔ s.lineBegun.ppu.ly.toNat = s.ppu.lyc.toNat := BitVec.toNat_inj.symm
  rcases completeLine_cases s with ⟨⟨hvis, -⟩, h⟩ | ⟨hv, h⟩ | ⟨⟨hv, -⟩, h⟩
  case inl =>
    have hirq : (s.lineBegun.renderScanline s.lineBegun.ppu.ly.toNat).irq = s.lineBegun.irq := rfl
    rw [h, updateStat_flag, hirq, lineBegun_flag]
    simp only [renderScanline, hsel, hlyc]
    grind
  case inr.inl =>
    rw [h, updateStat_flag, enterVBlank_flag, lineBegun_flag, enterVBlank_ppu]
    simp only [hsel, hlyc, hlcdc]
    grind
  case inr.inr =>
    rw [h, updateStat_flag, lineBegun_flag, hsel, hlyc]
    grind

end State

end Sys2Proof.Machine
end

section
/-! The statements about the PPU (62_ppu.md). -/

namespace Sys2Proof.Machine

open State

/-- LY counts the completed scanlines. -/
theorem completeLines_ly_toNat (n : Nat) {s : State} (h : s.ppu.ly.toNat < 154) :
    (completeLines n s).ppu.ly.toNat = (s.ppu.ly.toNat + n) % 154 := by
  induction n generalizing s with
  | zero => exact (Nat.mod_eq_of_lt h).symm
  | succ n ih =>
    have hly : s.completeLine.ppu.ly.toNat = (s.ppu.ly.toNat + 1) % 154 := by
      rw [(completeLine_line s).1, BitVec.toNat_ofNat, linesPerFrame]
      omega
    rw [completeLines, ih (by rw [hly]; exact Nat.mod_lt _ (by decide)), hly, Nat.mod_add_mod, Nat.add_assoc,
      Nat.add_comm 1]

/-- Settles O46: each completed scanline takes 456 cycles from the accumulator and moves LY on. -/
theorem linesComplete : Obligations.LinesComplete := by
  intro s cyc ⟨hly, hacc⟩
  obtain ⟨-, hleft⟩ := completeLines_ly ((s.ppu.acc + cyc) / 456)
    (s := { s with ppu := { s.ppu with acc := s.ppu.acc + cyc } }) hly
  refine ⟨hleft.trans ?_, completeLines_ly_toNat _ (s := { s with ppu := { s.ppu with acc := s.ppu.acc + cyc } }) hly⟩
  rw [lineCycles, Nat.mod_eq_sub_mul_div]

end Sys2Proof.Machine
end

section
/-! What a completed scanline leaves of the picture and of memory (62_ppu.md R421, R422, R429, R470), and the statement. -/

namespace Sys2Proof.Machine

namespace State

/-- The picture goes on from the line begun: the coincidence bit, publishing, rendering. -/
theorem completeLine_picture (s : State) :
    let new := s.lineBegun.ppu.ly.toNat
    let t := s.completeLine
    let r := s.lineBegun.renderScanline new
    (t.ppu.statCoinc = true ↔ new = s.ppu.lyc.toNat) ∧
    (new = 144 → t.ppu.published = s.ppu.raster) ∧ (new ≠ 144 → t.ppu.published = s.ppu.published) ∧
    (¬(new < 144 ∧ s.ppu.lcdc.getLsbD 7 = true) →
      t.ppu.raster = s.ppu.raster ∧ t.ppu.tag = s.ppu.tag ∧ t.ppu.bgIdx = s.ppu.bgIdx) ∧
    (new < 144 → s.ppu.lcdc.getLsbD 7 = true →
      t.ppu.raster = r.ppu.raster ∧ t.ppu.tag = r.ppu.tag ∧ t.ppu.bgIdx = r.ppu.bgIdx) := by
  intro new t r
  have hco : (s.lineBegun.ppu.ly == s.lineBegun.ppu.lyc) = true ↔ new = s.ppu.lyc.toNat := by
    rw [beq_iff_eq, show s.lineBegun.ppu.lyc = s.ppu.lyc by rw [lineBegun_ppu]]
    exact BitVec.toNat_inj.symm
  have hpub : s.lineBegun.ppu.published = s.ppu.published := by rw [lineBegun_ppu]
  have hraster : s.lineBegun.ppu.raster = s.ppu.raster := by rw [lineBegun_ppu]
  have htag : s.lineBegun.ppu.tag = s.ppu.tag := by rw [lineBegun_ppu]
  have hidx : s.lineBegun.ppu.bgIdx = s.ppu.bgIdx := by rw [lineBegun_ppu]
  rcases completeLine_cases s with ⟨hren, h⟩ | ⟨hv, h⟩ | ⟨⟨hv, hren⟩, h⟩
  case inl =>
    have ht : t.ppu = { r.ppu with statCoinc := s.lineBegun.ppu.ly == s.lineBegun.ppu.lyc } :=
      (congrArg State.ppu h).trans (updateStat_ppu _)
    rw [ht]
    exact ⟨hco, fun hv => absurd hv (Nat.ne_of_lt hren.1), fun _ => hpub, fun hn => absurd hren hn,
      fun _ _ => ⟨rfl, rfl, rfl⟩⟩
  case inr.inl =>
    have ht : t.ppu = { s.lineBegun.ppu with
        published := s.lineBegun.ppu.raster, statCoinc := s.lineBegun.ppu.ly == s.lineBegun.ppu.lyc } := by
      rw [show t = _ from h, updateStat_ppu, enterVBlank_ppu]
    rw [ht]
    exact ⟨hco, fun _ => hraster, fun hn => absurd hv hn, fun _ => ⟨hraster, htag, hidx⟩,
      fun hn => absurd hv (Nat.ne_of_lt hn)⟩
  case inr.inr =>
    have ht : t.ppu = { s.lineBegun.ppu with statCoinc := s.lineBegun.ppu.ly == s.lineBegun.ppu.lyc } :=
      (congrArg State.ppu h).trans (updateStat_ppu _)
    rw [ht]
    exact ⟨hco, fun hn => absurd hn hv, fun _ => hpub, fun _ => ⟨hraster, htag, hidx⟩,
      fun hn hd => absurd ⟨hn, hd⟩ hren⟩

/-- A line draws what it would draw in the old state with the memory the H-Blank leaves. -/
theorem lineBegun_renderScanline (s : State) (n : Nat) :
    let t := s.lineBegun.renderScanline n
    let r := ({ s with mem := s.completeLine.mem } : State).renderScanline n
    t.ppu.raster = r.ppu.raster ∧ t.ppu.tag = r.ppu.tag ∧ t.ppu.bgIdx = r.ppu.bgIdx := by
  have hmem : s.completeLine.mem = s.lineBegun.mem := (completeLine_transfer s).1
  have hb : s.lineBegun = { { s with mem := s.lineBegun.mem } with
      irq := s.lineBegun.irq, hdma := s.lineBegun.hdma, carryCycles := s.lineBegun.carryCycles
      ppu := { s.ppu with ly := s.lineBegun.ppu.ly, acc := s.lineBegun.ppu.acc } } := by
    have hf := (lineBegun_work s).frame
    rw [lineBegun_ppu] at hf ⊢
    rw [hf]
  rw [hmem]
  dsimp only
  rw [hb]
  exact renderScanline_congr { s with mem := s.lineBegun.mem } _ _ _ _ _ n

theorem raiseIf_eq (s : State) (c : Bool) (k : Fin 5) : s.raiseIf c k =
    { s with irq := { s.irq with flags := if c then s.irq.flags ||| (1#5 <<< k.val) else s.irq.flags } } := by
  cases c <;> rfl

/-- Memory, the HDMA registers and the carried cycles after a completed line: those of the H-Blank's chunk, or the old ones. -/
theorem completeLine_chunk (s : State) :
    let t := s.completeLine
    let w : State := { s with
      ppu := { s.ppu with acc := s.ppu.acc - 456 }
      irq := { s.irq with flags := if s.ppu.statSel.getLsbD 0 then s.irq.flags ||| 0x02#5 else s.irq.flags } }
    (s.ppu.ly.toNat < 144 → s.cart.cgbMode = true → s.hdma.active = true →
      t.mem = w.hblankChunk.mem ∧ t.hdma = w.hblankChunk.hdma ∧ t.carryCycles = w.hblankChunk.carryCycles) ∧
    (144 ≤ s.ppu.ly.toNat ∨ s.cart.cgbMode = false ∨ s.hdma.active = false →
      t.mem = s.mem ∧ t.hdma = s.hdma ∧ t.carryCycles = s.carryCycles) := by
  intro t w
  obtain ⟨hmem, hhdma, hcarry⟩ := completeLine_transfer s
  have hw : ({ s with ppu := { s.ppu with acc := s.ppu.acc - lineCycles } } : State).raiseIf
      (s.ppu.statSel.getLsbD 0) 1 = w := raiseIf_eq _ _ _
  constructor
  · intro hly hc ha
    rw [if_pos (show s.ppu.ly.toNat < visibleLines from hly), hblankEvent_eq, if_pos ⟨hc, ha⟩, hw] at hmem hhdma hcarry
    exact ⟨hmem, hhdma, hcarry⟩
  · intro hno
    by_cases hly : s.ppu.ly.toNat < visibleLines
    · have hoff : ¬(s.cart.cgbMode = true ∧ s.hdma.active = true) := by
        unfold visibleLines at hly
        rintro ⟨hc, ha⟩
        rw [hc, ha] at hno
        rcases hno with h | h | h
        · omega
        · exact nomatch h
        · exact nomatch h
      rw [if_pos hly, hblankEvent_eq, if_neg hoff, hw] at hmem hhdma hcarry
      exact ⟨hmem, hhdma, hcarry⟩
    · rw [if_neg hly] at hmem hhdma hcarry
      exact ⟨hmem, hhdma, hcarry⟩

end State

open State

/-- Settles O47: the line begins, and goes on in one of three ways. -/
theorem lineRaises : Obligations.LineRaises := by
  refine ⟨fun s cyc => ⟨ppuTick_lt s, ppuTick_ge s⟩, fun s _ _ => ?_⟩
  have hnew := lineBegun_ly s
  have hflag := completeLine_flag s
  obtain ⟨hly, hacc⟩ := completeLine_line s
  obtain ⟨hco, hpub, hpub', hstill, hdrawn⟩ := completeLine_picture s
  obtain ⟨hchunk, hkept⟩ := completeLine_chunk s
  have hframe := (PpuWork.completeLine s).frame
  rw [hnew] at hflag hco hpub hpub' hstill hdrawn
  refine ⟨?_, ?_, ?_, ?_, ?_, hco, hpub, hpub', hstill, ?_, hchunk, hkept, ?_⟩
  · rw [hly, BitVec.toNat_ofNat, linesPerFrame]
    omega
  · rw [hflag]
    simp
  · rw [hflag]
    simp
  · intro k hk
    rw [Bool.eq_iff_iff, hflag]
    grind
  · exact congrArg (fun t => t.irq.enable) hframe
  · intro hn hd
    obtain ⟨hr, ht, hi⟩ := hdrawn hn hd
    obtain ⟨hr', ht', hi'⟩ := lineBegun_renderScanline s ((s.ppu.ly.toNat + 1) % 154)
    exact ⟨hr.trans hr', ht.trans ht', hi.trans hi'⟩
  · have hirq : s.completeLine.irq = { s.irq with flags := s.completeLine.irq.flags } := congrArg State.irq hframe
    have hmem : s.completeLine.mem = { s.mem with vram := s.completeLine.mem.vram } := congrArg State.mem hframe
    rw [hirq, hmem]
    rw [hacc] at hframe
    exact hframe

end Sys2Proof.Machine
end

section
/-! Composing a scanline (62_ppu.md R429, R440, R448): the row that is replaced, the column with its sprites, and the
sprite that covers it. -/

namespace Sys2Proof.Machine

theorem Tag.eq_above_of_rank {t : Tag} (h : Tag.spriteAbove.rank ≤ t.rank) : t = .spriteAbove := by
  revert h
  cases t <;> decide

theorem Tag.behind_or_above_of_rank {t : Tag} (h : Tag.spriteBehind.rank ≤ t.rank) :
    t = .spriteBehind ∨ t = .spriteAbove := by
  revert h
  cases t <;> decide

namespace State

/-! ### The row -/

theorem getElem?_renderLine (s : State) (ly : Nat) {x : Nat} (hx : x < 160) :
    (s.renderLine ly)[x]? = some (s.renderColumn (s.lineSprites ly) ly x) := by
  rw [renderLine, screenWidth, List.getElem?_map, List.getElem?_range hx, Option.map_some]

theorem renderScanline_raster_other (s : State) {ly k : Nat} (h : k ≠ ly) :
    (s.renderScanline ly).ppu.raster[k]? = s.ppu.raster[k]? :=
  List.getElem?_set_ne h.symm

theorem renderScanline_raster_same (s : State) {ly : Nat} (h : ly < s.ppu.raster.length) :
    (s.renderScanline ly).ppu.raster[ly]? = some ((s.renderLine ly).map Column.pixel) :=
  List.getElem?_set_self h

/-! ### The column -/

/-- Sprites are drawn on the column without them. -/
theorem renderColumn_eq (s : State) (sprites : List Sprite) (ly x : Nat) :
    s.renderColumn sprites ly x =
      if s.ppu.lcdc.getLsbD 1 then sprites.foldl (s.drawSprite ly x) (s.renderColumn [] ly x)
      else s.renderColumn [] ly x := by
  unfold renderColumn
  cases s.ppu.lcdc.getLsbD 1 <;> rfl

/-- One opaque sprite that is drawn on a column. -/
theorem drawSprite_tag {s : State} {ly x : Nat} {o : Sprite} (c : Column) (hx : o.x.toNat ≤ x + 8)
    (hx' : x < o.x.toNat) (hi : s.spriteIdx ly x o ≠ 0#2) :
    (¬GoesBehind s o → (s.drawSprite ly x c o).tag = .spriteAbove) ∧
    (GoesBehind s o → c.bgIdx = 0#2 → Tag.spriteBehind.rank ≤ (s.drawSprite ly x c o).tag.rank) := by
  have h := spriteDrawn s ly x c o
  constructor
  · intro hb
    obtain ⟨px, -, e⟩ := h.above hx hx' hi hb
    rw [e]
  · intro hb hc
    obtain ⟨same, put⟩ := h.behind hx hx' hi hb hc
    by_cases ht : c.tag = .spriteAbove
    · rw [same ht, ht]
      decide
    · obtain ⟨px, -, e⟩ := put ht
      rw [e]

/-- A column that an opaque sprite of the line covers keeps at least that sprite's tag: what is drawn before does not change
the background index, what is drawn after does not lower the tag. -/
theorem foldl_drawSprite_tag {s : State} {ly x : Nat} {o : Sprite} {sprites : List Sprite} (c : Column)
    (ho : o ∈ sprites) (hx : o.x.toNat ≤ x + 8) (hx' : x < o.x.toNat) (hi : s.spriteIdx ly x o ≠ 0#2) :
    (¬GoesBehind s o → (sprites.foldl (s.drawSprite ly x) c).tag = .spriteAbove) ∧
    (GoesBehind s o → c.bgIdx = 0#2 → (sprites.foldl (s.drawSprite ly x) c).tag = .spriteBehind ∨
      (sprites.foldl (s.drawSprite ly x) c).tag = .spriteAbove) := by
  obtain ⟨front, back, rfl⟩ := List.append_of_mem ho
  rw [List.foldl_append, List.foldl_cons]
  have hfront := Draws.sprites s ly x front c
  obtain ⟨habove, hbehind⟩ := drawSprite_tag (front.foldl (s.drawSprite ly x) c) hx hx' hi
  have hback := (Draws.sprites s ly x back (s.drawSprite ly x (front.foldl (s.drawSprite ly x) c) o)).rank
  constructor
  · intro hb
    exact Tag.eq_above_of_rank ((congrArg Tag.rank (habove hb)).ge.trans hback)
  · intro hb hc
    exact Tag.behind_or_above_of_rank ((hbehind hb (hfront.bgIdx.trans hc)).trans hback)

/-! ### The sprites of a line -/

theorem length_lineSprites_le (s : State) (ly : Nat) : (s.lineSprites ly).length ≤ 10 := List.length_take_le 10 _

theorem lineSprites_sublist (s : State) (ly : Nat) :
    (s.lineSprites ly).Sublist ((List.range 40).map s.sprite) :=
  (List.take_sublist 10 _).trans List.filter_sublist

/-- A line with fewer than ten sprites misses none. -/
theorem mem_lineSprites_of_lt {s : State} {ly i : Nat} (h : (s.lineSprites ly).length < 10) (hi : i < 40)
    (ho : OnLine s ly (s.sprite i)) : s.sprite i ∈ s.lineSprites ly := by
  have hall : s.lineSprites ly = ((List.range 40).map s.sprite).filter (s.onLine ly) := by
    unfold lineSprites at h ⊢
    rw [List.length_take] at h
    exact List.take_of_length_le (by omega)
  rw [hall]
  exact List.mem_filter.2 ⟨List.mem_map.2 ⟨i, List.mem_range.2 hi, rfl⟩, (onLine_iff s ly _).2 ho⟩

end State

open State

/-- Settles O48: the row, the sprites of the line, and each column by its layers. -/
theorem scanlineComposes : Obligations.ScanlineComposes := by
  intro s ly
  refine ⟨⟨List.length_set, fun k hk => renderScanline_raster_other s hk, fun h => ?_⟩,
    ⟨length_lineSprites_le s ly, fun o ho => mem_lineSprites ho⟩, fun sprites x c => ?_,
    ⟨lineSprites_sublist s ly, fun h i hi ho => mem_lineSprites_of_lt h hi ho, lineSprites_entries s ly⟩,
    fun x hx => ?_⟩
  · rw [renderScanline_raster_same s h, Option.map_some, List.length_map, renderLine, List.length_map,
      List.length_range, screenWidth]
  · have h := Draws.sprites s ly x sprites c
    exact ⟨h.bgIdx, h.rank, h.behind⟩
  · have hcol := getElem?_renderLine s ly hx
    have hdraw := renderColumn_eq s (s.lineSprites ly) ly x
    refine ⟨fun h => ?_, ?_, ?_, tilesDrawn s ly x, hdraw, fun o d => ⟨s.spriteIdx ly x o,
      fun _ hl hr => spriteIdxIs s hl hr, spriteDrawn s ly x d o⟩, fun hon o ho hl hr hidx => ?_⟩
    · rw [renderScanline_raster_same s h, Option.bind_some, List.getElem?_map, hcol, Option.map_some]
    · exact (List.getElem?_map ..).trans (congrArg _ hcol)
    · exact (List.getElem?_map ..).trans (congrArg _ hcol)
    · rw [if_pos hon] at hdraw
      have hopaque : s.spriteIdx ly x o ≠ 0#2 := fun e => hidx (e ▸ spriteIdxIs s hl hr)
      obtain ⟨habove, hbehind⟩ := foldl_drawSprite_tag (s.renderColumn [] ly x) ho hl hr hopaque
      rw [hdraw, (Draws.sprites s ly x _ _).bgIdx]
      exact ⟨habove, hbehind⟩

end Sys2Proof.Machine
end

section
/-! OAM DMA (62_ppu.md R460): each byte is the one the address space shows before the copy, OAM itself included. -/

namespace Sys2Proof.Machine

namespace State

/-- Nothing but an OAM cell shows OAM. -/
theorem readPlace_oam (s : State) (oam : Memory) {p : Place} (h : ∀ i, p ≠ .oam i) :
    ({ s with mem := { s.mem with oam := oam } } : State).readPlace p = s.readPlace p := by
  cases p
  case oam i => exact absurd rfl (h i)
  case io r => cases r <;> rfl
  all_goals rfl

theorem eramPlace_ne_oam (c : Cartridge) (m : Mbc) (off i : Nat) : eramPlace c m off ≠ .oam i := by
  intro e
  rcases eramPlace_kinds c m off with ⟨j, h⟩ | h
  · rw [e] at h
    exact nomatch h
  · rw [e] at h
    exact nomatch h

/-- Only its window leads to OAM (R61). -/
theorem route_eq_oam {s : State} {a : Word} {i : Nat} (h : s.route a = .oam i) : 0xFE00 ≤ a.toNat ∧ a.toNat < 0xFEA0 := by
  obtain ⟨i1, w1, -, -⟩ := wramPlace_eq s (a.toNat - 0xC000)
  obtain ⟨i2, w2, -, -⟩ := wramPlace_eq s (a.toNat - 0xE000)
  rcases route_cases s a with ⟨-, i, e⟩ | ⟨-, -, e⟩ | ⟨-, -, e⟩ | ⟨-, -, e⟩ | ⟨-, -, e⟩ | ⟨h1, h2, -⟩ | ⟨-, -, e⟩ |
    ⟨-, -, e⟩ | ⟨-, -, e⟩ | ⟨-, e⟩
  case inr.inr.inr.inr.inr.inl => exact ⟨h1, h2⟩
  case inr.inr.inl => exact absurd (e.symm.trans h) (eramPlace_ne_oam _ _ _ _)
  case inr.inr.inr.inl => exact nomatch (w1.symm.trans e.symm).trans h
  case inr.inr.inr.inr.inl => exact nomatch (w2.symm.trans e.symm).trans h
  all_goals exact nomatch e.symm.trans h

/-- A read depends on OAM only where the address is one of its window. -/
theorem read_oam (s : State) (oam : Memory) (a : Word) :
    ({ s with mem := { s.mem with oam := oam } } : State).read a =
      if 0xFE00 ≤ a.toNat ∧ a.toNat < 0xFEA0 then oam.read (a.toNat - 0xFE00) else s.read a := by
  split
  next h => exact (oam_access _ 0#8 h.1 h.2).1
  next h => exact readPlace_oam s oam fun i e => h (route_eq_oam e)

/-- The first `n` bytes of the copy from page `v`: a source in OAM is the destination itself. -/
theorem oamCopy_spec (s : State) (v : Byte) {n : Nat} (hn : n ≤ 160) (hwf : s.mem.oam.wf) :
    ∃ oam, oamCopy (v ++ 0x00#8) n s = { s with mem := { s.mem with oam := oam } } ∧ oam.wf ∧
      (∀ i, i < n → oam.read i = s.read (BitVec.ofNat 16 (256 * v.toNat + i))) ∧
      (∀ i, n ≤ i → oam.read i = s.mem.oam.read i) := by
  induction n with
  | zero => exact ⟨s.mem.oam, rfl, hwf, fun i hi => absurd hi (Nat.not_lt_zero i), fun _ _ => rfl⟩
  | succ n ih =>
    obtain ⟨oam, h, hw, hcopied, hrest⟩ := ih (by omega)
    have hv := v.isLt
    have hsrc : (v ++ 0x00#8 : Word) + BitVec.ofNat 16 n = BitVec.ofNat 16 (256 * v.toNat + n) := by
      have hpage : (v ++ 0x00#8 : Word).toNat = 256 * v.toNat + 0 := toNat_ofBytes v 0x00#8
      apply BitVec.eq_of_toNat_eq
      rw [BitVec.toNat_add, hpage, BitVec.toNat_ofNat, BitVec.toNat_ofNat]
      omega
    have hbyte : ({ s with mem := { s.mem with oam := oam } } : State).read (BitVec.ofNat 16 (256 * v.toNat + n)) =
        s.read (BitVec.ofNat 16 (256 * v.toNat + n)) := by
      have ha : (BitVec.ofNat 16 (256 * v.toNat + n)).toNat = 256 * v.toNat + n := by
        rw [BitVec.toNat_ofNat]
        omega
      rw [read_oam]
      split
      next hw =>
        rw [(oam_access s 0#8 hw.1 hw.2).1]
        exact hrest _ (by omega)
      next => rfl
    refine ⟨oam.write n (s.read (BitVec.ofNat 16 (256 * v.toNat + n))), ?_, Memory.wf_write hw _ _, ?_, ?_⟩
    · rw [oamCopy, h, hsrc, hbyte]
      rfl
    · intro i hi
      rw [Memory.read_write hw]
      split
      next e => rw [e]
      next e => exact hcopied i (by omega)
    · intro i hi
      rw [Memory.read_write_other _ _ (by omega)]
      exact hrest i (by omega)

end State

open State

/-- Settles O49: the whole copy. -/
theorem oamDmaCopies : Obligations.OamDmaCopies := by
  intro s v hm
  have hwrite : s.write 0xFF46#16 v = oamCopy (v ++ 0x00#8) 160 { s with ppu := { s.ppu with dma := v } } :=
    (io_access s (n := 0x46) (r := .dma) rfl (by decide) rfl).2 v
  obtain ⟨oam, h, -, hcopied, hrest⟩ :=
    oamCopy_spec { s with ppu := { s.ppu with dma := v } } v (Nat.le_refl 160) hm.oam
  rw [hwrite, h]
  exact ⟨rfl, hcopied, hrest⟩

end Sys2Proof.Machine
end

section
/-! HDMA (62_ppu.md R463 to R466): the four cases of a write of FF55, and the chunk of an H-Blank. -/

namespace Sys2Proof.Machine

open State

namespace State

theorem write_hdma5 (s : State) (v : Byte) (h : s.cart.cgbMode = true) : s.write 0xFF55#16 v = s.hdmaControl v := by
  rw [(io_access s (n := 0x55) (r := .hdma5) rfl (by decide) rfl).2 v]
  simp only [writeIo, ifCgb, if_pos h]

theorem copyChunks_src (n : Nat) (s : State) :
    (copyChunks n s).hdma.src = s.hdma.src + BitVec.ofNat 16 (16 * n) := by
  induction n generalizing s with
  | zero => exact (BitVec.add_zero _).symm
  | succ n ih =>
    rw [copyChunks, ih, (chunkMoves s).src, BitVec.add_assoc, Nat.mul_succ, BitVec.ofNat_add, BitVec.add_comm 16#16]

theorem toNat_low7 (v : Byte) : (v.extractLsb' 0 7).toNat = v.toNat % 128 := by
  rw [BitVec.extractLsb'_toNat, Nat.shiftRight_zero]

theorem hdma5_reads {t : State} {on : Bool} {n : BitVec 7} (hc : t.cart.cgbMode = true) (ha : t.hdma.active = on)
    (hl : t.hdma.len = n) : (t.read 0xFF55#16).toNat = (if on then 0 else 128) + n.toNat := by
  rw [hdma5_toNat t hc, ha, hl]

/-- What a general transfer leaves (R464). -/
theorem generalDma_chunks (s : State) (n : BitVec 7) :
    let t := s.generalDma n
    (∃ u, ChunksMove (n.toNat + 1) s u ∧ t = { u with hdma := { u.hdma with len := 0x7F#7, active := false } }) ∧
    t.carryCycles = s.carryCycles + 8 * (n.toNat + 1) ∧
    t.hdma.src = s.hdma.src + BitVec.ofNat 16 (16 * (n.toNat + 1)) ∧
    t.hdma.active = false ∧ t.hdma.len = 0x7F#7 ∧ t.cart = s.cart := by
  obtain ⟨vram, src, dst, carry, h, hk, -⟩ := generalDma_eq s n
  refine ⟨⟨_, chunksMove _ s, rfl⟩, ?_, copyChunks_src _ s, rfl, rfl, ?_⟩
  · rw [h]
    exact hk
  · rw [h]

/-- The H-Blank's chunk (R465). -/
theorem hblankChunk_moves (s : State) :
    ∃ u, ChunkMoves s u ∧
      (s.hdma.len = 0#7 → s.hblankChunk = { u with hdma := { u.hdma with len := 0x7F#7, active := false } }) ∧
      (s.hdma.len ≠ 0#7 → ∃ n : BitVec 7, n.toNat + 1 = s.hdma.len.toNat ∧
        s.hblankChunk = { u with hdma := { u.hdma with len := n } }) := by
  have hmoves := chunkMoves s
  have hlen : s.hdmaCopyChunk.hdma.len = s.hdma.len := congrArg (fun t => t.hdma.len) hmoves.frame
  refine ⟨s.hdmaCopyChunk, hmoves, fun h => ?_, fun h => ⟨s.hdma.len - 1#7, ?_, ?_⟩⟩
  · unfold hblankChunk
    rw [if_pos (hlen.trans h)]
  · have hpos : s.hdma.len.toNat ≠ 0 := fun e => h (BitVec.eq_of_toNat_eq e)
    have hlt := s.hdma.len.isLt
    rw [BitVec.toNat_sub, BitVec.toNat_ofNat]
    omega
  · unfold hblankChunk
    rw [if_neg (hlen ▸ h), hlen]

end State

/-- Settles O50: the four branches of the control write, and the H-Blank's chunk. -/
theorem hdmaTransfers : Obligations.HdmaTransfers := by
  intro s v hc
  refine ⟨hdma5_toNat s hc, ?_, hblankChunk_moves s⟩
  rw [write_hdma5 s v hc]
  have hframe : ∃ vram hdma carry, s.hdmaControl v =
      { s with mem := { s.mem with vram := vram }, hdma := hdma, carryCycles := carry } := by
    obtain ⟨vram, hdma, carry, k, h, -⟩ := hdmaControl_eq s v
    exact ⟨vram, hdma, carry, h⟩
  have hc' : (s.hdmaControl v).cart.cgbMode = true := by
    obtain ⟨vram, hdma, carry, h⟩ := hframe
    rw [h]
    exact hc
  refine ⟨?_, fun ha hv => ?_, fun ha hv => ?_, fun ha hv => ?_, fun ha hv => ?_⟩
  · obtain ⟨vram, hdma, carry, h⟩ := hframe
    rw [h]
  · have ht : s.hdmaControl v = s.generalDma (v.extractLsb' 0 7) := by
      simp only [hdmaControl, ha, hv, Bool.false_eq_true, if_false]
    obtain ⟨hchunks, hcarry, hsrc, hoff, hlen, hcart⟩ := generalDma_chunks s (v.extractLsb' 0 7)
    rw [toNat_low7] at hchunks hcarry hsrc
    rw [ht]
    exact ⟨hchunks, hcarry, hsrc, BitVec.eq_of_toNat_eq (hdma5_reads (hcart ▸ hc) hoff hlen)⟩
  · have ht : s.hdmaControl v = { s with hdma := { s.hdma with len := v.extractLsb' 0 7, active := true } } := by
      simp only [hdmaControl, ha, hv, Bool.false_eq_true, if_false, if_true]
    refine ⟨ht, ?_⟩
    rw [hdma5_reads hc' (congrArg (fun t => t.hdma.active) ht) (congrArg (fun t => t.hdma.len) ht), ← toNat_low7 v]
    exact Nat.zero_add _
  · have ht : s.hdmaControl v = { s with hdma := { s.hdma with active := false } } := by
      simp only [hdmaControl, ha, hv, Bool.false_eq_true, if_false, if_true]
    refine ⟨ht, ?_⟩
    exact hdma5_reads hc' (congrArg (fun t => t.hdma.active) ht) (congrArg (fun t => t.hdma.len) ht)
  · have ht : s.hdmaControl v = { s with hdma := { s.hdma with len := v.extractLsb' 0 7 } } := by
      simp only [hdmaControl, ha, hv, if_true]
    refine ⟨ht, ?_⟩
    rw [hdma5_reads hc' ((congrArg (fun t => t.hdma.active) ht).trans ha) (congrArg (fun t => t.hdma.len) ht),
      ← toNat_low7 v]
    exact Nat.zero_add _

end Sys2Proof.Machine
end

section
/-! The bank controllers (21_cartridge_mbc.md): the bank that is shown, and the control writes. -/

namespace Sys2Proof.Machine

/-! ### ROM banks -/

theorem redirectZero_zero {lo : Byte} (h : lo.toNat = 0) : redirectZero lo = 1 := if_pos (BitVec.eq_of_toNat_eq h)

theorem redirectZero_pos {lo : Byte} (h : lo.toNat ≠ 0) : redirectZero lo = lo.toNat :=
  if_neg fun e => h (congrArg BitVec.toNat e)

/-- The redirected bank number where no high bits are joined (R130, R135, R141). -/
theorem redirectZero_mod {lo : Byte} {n : Nat} (h : 1 < n) :
    (lo.toNat = 0 → redirectZero lo % n = 1) ∧ (lo.toNat ≠ 0 → redirectZero lo % n = lo.toNat % n) :=
  ⟨fun e => by rw [redirectZero_zero e, Nat.mod_eq_of_lt h], fun e => by rw [redirectZero_pos e]⟩

/-- The bank at 4000-7FFF exists (R155). -/
theorem effRomBank_lt {c : Cartridge} (m : Mbc) (h : 1 < c.romBanks) : effRomBank c m < c.romBanks := by
  have hmod (k : Nat) : k % c.romBanks < c.romBanks := Nat.mod_lt k (by omega)
  unfold effRomBank
  cases c.kind
  case none => exact h
  all_goals exact hmod _

/-- The bank of each controller (R128, R130, R135, R141, R146). -/
theorem effRomBank_none {c : Cartridge} {m : Mbc} (h : c.kind = .none) : effRomBank c m = 1 := by
  unfold effRomBank
  rw [h]

theorem effRomBank_mbc1 {c : Cartridge} {m : Mbc} (h : c.kind = .mbc1) :
    effRomBank c m = ((if m.mode then 0 else m.bankHi.toNat) <<< 5 ||| redirectZero m.bankLo) % c.romBanks := by
  unfold effRomBank
  rw [h]

theorem effRomBank_mbc23 {c : Cartridge} {m : Mbc} (h : c.kind = .mbc2 ∨ c.kind = .mbc3) :
    effRomBank c m = redirectZero m.bankLo % c.romBanks := by
  unfold effRomBank
  rcases h with h | h <;> rw [h]

theorem effRomBank_mbc5 {c : Cartridge} {m : Mbc} (h : c.kind = .mbc5) :
    effRomBank c m = (256 * m.bankHi.toNat + m.bankLo.toNat) % c.romBanks := by
  have hcat : m.bankHi.toNat <<< 8 ||| m.bankLo.toNat = 256 * m.bankHi.toNat + m.bankLo.toNat := by
    rw [← Nat.shiftLeft_add_eq_or_of_lt m.bankLo.isLt, Nat.shiftLeft_eq, Nat.mul_comm]
  unfold effRomBank
  rw [h, ← hcat]

/-- MBC1 joins the high bits in mode 0 alone (R130). -/
theorem effRomBank_mbc1_mode0 {c : Cartridge} {m : Mbc} (h : c.kind = .mbc1) (hm : m.mode = false) :
    (m.bankLo.toNat = 0 → effRomBank c m = (32 * m.bankHi.toNat + 1) % c.romBanks) ∧
    (m.bankLo.toNat ≠ 0 → effRomBank c m = (32 * m.bankHi.toNat ||| m.bankLo.toNat) % c.romBanks) := by
  have hshift : m.bankHi.toNat <<< 5 = 32 * m.bankHi.toNat := by rw [Nat.shiftLeft_eq, Nat.mul_comm]
  rw [effRomBank_mbc1 h, hm, if_neg Bool.false_ne_true]
  constructor
  · intro e
    rw [redirectZero_zero e, ← Nat.shiftLeft_add_eq_or_of_lt (by decide), hshift]
  · intro e
    rw [redirectZero_pos e, hshift]

theorem effRomBank_mbc1_mode1 {c : Cartridge} {m : Mbc} (h : c.kind = .mbc1) (hm : m.mode = true) :
    effRomBank c m = redirectZero m.bankLo % c.romBanks := by
  rw [effRomBank_mbc1 h, hm, if_pos rfl, Nat.zero_shiftLeft, Nat.zero_or]

namespace State

theorem read_bank0 (s : State) {a : Word} (h : a.toNat < 0x4000) : s.read a = s.cart.rom.read a.toNat := by
  unfold read route
  dsimp only
  rw [if_pos h]
  rfl

theorem read_bankN (s : State) {a : Word} (h : 0x4000 ≤ a.toNat) (h' : a.toNat < 0x8000) :
    s.read a = s.cart.rom.read (16384 * effRomBank s.cart s.mbc + (a.toNat - 0x4000)) := by
  unfold read route
  dsimp only
  rw [if_neg (Nat.not_lt.2 h), if_pos h']
  rfl

end State

open State

/-- Settles O51: the bank of each controller, reduced to one that exists. -/
theorem romBanks : Obligations.RomBanks := by
  intro s a hn
  refine ⟨effRomBank_lt s.mbc hn, effRomBank_none, effRomBank_mbc1_mode0, fun h hm => ?_, fun h => ?_, effRomBank_mbc5,
    read_bank0 s, read_bankN s⟩
  · rw [effRomBank_mbc1_mode1 h hm]
    exact redirectZero_mod hn
  · rw [effRomBank_mbc23 h]
    exact redirectZero_mod hn

/-! ### Control writes -/

/-- Masking the low bits of a byte is a remainder (R134, R140). -/
theorem and_low_eq (v : Byte) {k : Nat} (hk : k ≤ 8) :
    v &&& BitVec.ofNat 8 (2 ^ k - 1) = BitVec.ofNat 8 (v.toNat % 2 ^ k) := by
  have hpow : 2 ^ k ≤ 2 ^ 8 := Nat.pow_le_pow_right (by decide) hk
  have hmask : (BitVec.ofNat 8 (2 ^ k - 1)).toNat = 2 ^ k - 1 := by
    rw [BitVec.toNat_ofNat]
    exact Nat.mod_eq_of_lt (by omega)
  apply BitVec.eq_of_toNat_eq
  rw [BitVec.toNat_and, hmask, Nat.and_two_pow_sub_one_eq_mod, BitVec.toNat_ofNat]
  exact (Nat.mod_eq_of_lt ((Nat.mod_le _ _).trans_lt v.isLt)).symm

theorem extractLsb'_zero_eq_ofNat (v : Byte) (k : Nat) : v.extractLsb' 0 k = BitVec.ofNat k v.toNat := by
  apply BitVec.eq_of_toNat_eq
  rw [BitVec.extractLsb'_toNat, Nat.shiftRight_zero, BitVec.toNat_ofNat]

theorem isRamEnable_iff (v : Byte) : isRamEnable v = true ↔ v.toNat % 16 = 0x0A := by
  have hlow : v &&& 0x0F#8 = BitVec.ofNat 8 (v.toNat % 16) := and_low_eq v (k := 4) (by decide)
  unfold isRamEnable
  rw [beq_iff_eq, hlow, ← BitVec.toNat_inj, BitVec.toNat_ofNat, BitVec.toNat_ofNat]
  omega

theorem getLsbD_zero_iff_odd (v : Byte) : v.getLsbD 0 = true ↔ v.toNat % 2 = 1 := by
  rw [BitVec.getLsbD, Nat.testBit_zero, decide_eq_true_iff]

/-- MBC5's ninth bit (R145). -/
theorem low2_and_one (v : Byte) : v.extractLsb' 0 2 &&& 1#2 = BitVec.ofNat 2 (v.toNat % 2) := by
  have hbit : ∀ x : BitVec 2, x &&& 1#2 = BitVec.ofNat 2 (x.toNat % 2) := by decide
  rw [hbit, BitVec.extractLsb'_toNat, Nat.shiftRight_zero, Nat.mod_mod_of_dvd _ (by decide)]

/-- MBC1's registers (R129). -/
theorem writeControl_mbc1 (m : Mbc) (a : Word) (v : Byte) :
    (a.toNat < 0x2000 → writeControl .mbc1 m a v = { m with ramEnable := isRamEnable v }) ∧
    (0x2000 ≤ a.toNat → a.toNat < 0x4000 →
      writeControl .mbc1 m a v = { m with bankLo := BitVec.ofNat 8 (v.toNat % 32) }) ∧
    (0x4000 ≤ a.toNat → a.toNat < 0x6000 → writeControl .mbc1 m a v = { m with bankHi := BitVec.ofNat 2 v.toNat }) ∧
    (0x6000 ≤ a.toNat → writeControl .mbc1 m a v = { m with mode := v.getLsbD 0 }) := by
  have hlo : v &&& 0x1F#8 = BitVec.ofNat 8 (v.toNat % 32) := and_low_eq v (k := 5) (by decide)
  rw [← hlo, ← extractLsb'_zero_eq_ofNat v 2]
  unfold writeControl
  dsimp only
  refine ⟨fun h => if_pos h, fun h h' => ?_, fun h h' => ?_, fun h => ?_⟩
  · rw [if_neg (by omega), if_pos h']
  · rw [if_neg (by omega), if_neg (by omega), if_pos h']
  · rw [if_neg (by omega), if_neg (by omega), if_neg (by omega)]

/-- MBC2's registers, by address bit 8 (R134). -/
theorem writeControl_mbc2 (m : Mbc) (a : Word) (v : Byte) :
    (a.toNat < 0x4000 → a.getLsbD 8 = false → writeControl .mbc2 m a v = { m with ramEnable := isRamEnable v }) ∧
    (a.toNat < 0x4000 → a.getLsbD 8 = true →
      writeControl .mbc2 m a v = { m with bankLo := BitVec.ofNat 8 (v.toNat % 16) }) ∧
    (0x4000 ≤ a.toNat → writeControl .mbc2 m a v = m) := by
  have hlo : v &&& 0x0F#8 = BitVec.ofNat 8 (v.toNat % 16) := and_low_eq v (k := 4) (by decide)
  rw [← hlo]
  unfold writeControl
  dsimp only
  refine ⟨fun h h8 => ?_, fun h h8 => ?_, fun h => if_neg (by omega)⟩
  · rw [if_pos h, h8, if_neg Bool.false_ne_true]
  · rw [if_pos h, h8, if_pos rfl]

/-- MBC3's registers (R140). -/
theorem writeControl_mbc3 (m : Mbc) (a : Word) (v : Byte) :
    (a.toNat < 0x2000 → writeControl .mbc3 m a v = { m with ramEnable := isRamEnable v }) ∧
    (0x2000 ≤ a.toNat → a.toNat < 0x4000 →
      writeControl .mbc3 m a v = { m with bankLo := BitVec.ofNat 8 (v.toNat % 128) }) ∧
    (0x4000 ≤ a.toNat → a.toNat < 0x6000 → writeControl .mbc3 m a v = { m with ramSel := BitVec.ofNat 4 v.toNat }) ∧
    (0x6000 ≤ a.toNat → writeControl .mbc3 m a v = m) := by
  have hlo : v &&& 0x7F#8 = BitVec.ofNat 8 (v.toNat % 128) := and_low_eq v (k := 7) (by decide)
  rw [← hlo, ← extractLsb'_zero_eq_ofNat v 4]
  unfold writeControl
  dsimp only
  refine ⟨fun h => if_pos h, fun h h' => ?_, fun h h' => ?_, fun h => ?_⟩
  · rw [if_neg (by omega), if_pos h']
  · rw [if_neg (by omega), if_neg (by omega), if_pos h']
  · rw [if_neg (by omega), if_neg (by omega), if_neg (by omega)]

/-- MBC5's registers (R145). -/
theorem writeControl_mbc5 (m : Mbc) (a : Word) (v : Byte) :
    (a.toNat < 0x2000 → writeControl .mbc5 m a v = { m with ramEnable := isRamEnable v }) ∧
    (0x2000 ≤ a.toNat → a.toNat < 0x3000 → writeControl .mbc5 m a v = { m with bankLo := v }) ∧
    (0x3000 ≤ a.toNat → a.toNat < 0x4000 →
      writeControl .mbc5 m a v = { m with bankHi := BitVec.ofNat 2 (v.toNat % 2) }) ∧
    (0x4000 ≤ a.toNat → a.toNat < 0x6000 → writeControl .mbc5 m a v = { m with ramSel := BitVec.ofNat 4 v.toNat }) ∧
    (0x6000 ≤ a.toNat → writeControl .mbc5 m a v = m) := by
  rw [← low2_and_one v, ← extractLsb'_zero_eq_ofNat v 4]
  unfold writeControl
  dsimp only
  refine ⟨fun h => if_pos h, fun h h' => ?_, fun h h' => ?_, fun h h' => ?_, fun h => ?_⟩
  · rw [if_neg (by omega), if_pos h']
  · rw [if_neg (by omega), if_neg (by omega), if_pos h']
  · rw [if_neg (by omega), if_neg (by omega), if_neg (by omega), if_pos h']
  · rw [if_neg (by omega), if_neg (by omega), if_neg (by omega), if_neg (by omega)]

/-- Settles O52: the register of each range, controller by controller. -/
theorem controlWrites : Obligations.ControlWrites := by
  intro s a v ha
  dsimp only
  rw [write_control s v ha]
  have hen := isRamEnable_iff v
  refine ⟨rfl, fun hk => ?_, fun hk => ?_, fun hk => ?_, fun hk => ?_, fun hk => ?_⟩ <;> rw [hk]
  · rfl
  · obtain ⟨enable, lo, hi, mode⟩ := writeControl_mbc1 s.mbc a v
    exact ⟨fun h => ⟨_, hen, enable h⟩, lo, hi, fun h => ⟨_, getLsbD_zero_iff_odd v, mode h⟩⟩
  · obtain ⟨enable, lo, rest⟩ := writeControl_mbc2 s.mbc a v
    exact ⟨fun h h8 => ⟨_, hen, enable h h8⟩, lo, rest⟩
  · obtain ⟨enable, lo, sel, rest⟩ := writeControl_mbc3 s.mbc a v
    exact ⟨fun h => ⟨_, hen, enable h⟩, lo, sel, rest⟩
  · obtain ⟨enable, lo, hi, sel, rest⟩ := writeControl_mbc5 s.mbc a v
    exact ⟨fun h => ⟨_, hen, enable h⟩, lo, hi, sel, rest⟩

end Sys2Proof.Machine
end

section
/-! The windows of the address space (20_memory.md R66 to R74) and what the bank controllers show at A000-BFFF
(21_cartridge_mbc.md R126, R131, R136, R142, R147). -/

namespace Sys2Proof.Machine

namespace State

/-! ### Plain windows, the echo, nothing -/

theorem vram_window (s : State) {a : Word} (v : Byte) (h : 0x8000 ≤ a.toNat) (h' : a.toNat < 0xA000) :
    s.read a = s.mem.vram.read (8192 * s.vramBank + (a.toNat - 0x8000)) ∧
    s.write a v = { s with mem := { s.mem with vram := (s.write a v).mem.vram } } ∧
    CellStores s.mem.vram (s.write a v).mem.vram (8192 * s.vramBank + (a.toNat - 0x8000)) v := by
  obtain ⟨hr, hw⟩ := vram_access s v h h'
  rw [hw]
  exact ⟨hr, rfl, cellStores_write _ _ v⟩

theorem wram_window (s : State) {a : Word} {i : Nat} (v : Byte) (h : 0xC000 ≤ a.toNat) (h' : a.toNat < 0xE000)
    (hi : (if a.toNat < 0xD000 then a.toNat - 0xC000 else 4096 * s.wramBank + (a.toNat - 0xD000)) = i) :
    s.read a = s.mem.wram.read i ∧ s.write a v = { s with mem := { s.mem with wram := (s.write a v).mem.wram } } ∧
    CellStores s.mem.wram (s.write a v).mem.wram i v := by
  obtain ⟨hr, hw⟩ := wram_access s v h h'
  rw [hw, ← hi]
  exact ⟨hr, rfl, cellStores_write _ _ v⟩

theorem oam_window (s : State) {a : Word} (v : Byte) (h : 0xFE00 ≤ a.toNat) (h' : a.toNat < 0xFEA0) :
    s.read a = s.mem.oam.read (a.toNat - 0xFE00) ∧
    s.write a v = { s with mem := { s.mem with oam := (s.write a v).mem.oam } } ∧
    CellStores s.mem.oam (s.write a v).mem.oam (a.toNat - 0xFE00) v := by
  obtain ⟨hr, hw⟩ := oam_access s v h h'
  rw [hw]
  exact ⟨hr, rfl, cellStores_write _ _ v⟩

theorem hram_window (s : State) {a : Word} (v : Byte) (h : 0xFF80 ≤ a.toNat) (h' : a.toNat < 0xFFFF) :
    s.read a = s.mem.hram.read (a.toNat - 0xFF80) ∧
    s.write a v = { s with mem := { s.mem with hram := (s.write a v).mem.hram } } ∧
    CellStores s.mem.hram (s.write a v).mem.hram (a.toNat - 0xFF80) v := by
  obtain ⟨hr, hw⟩ := hram_access s v h h'
  rw [hw]
  exact ⟨hr, rfl, cellStores_write _ _ v⟩

/-- The bank at D000-DFFF (R69): 0 selects bank 1. -/
theorem wramBank_eq (s : State) :
    s.wramBank = if s.cart.cgbMode = true ∧ s.mem.svbk ≠ 0#3 then s.mem.svbk.toNat else 1 := by
  have hmax : ∀ k : BitVec 3, max 1 k.toNat = if k ≠ 0#3 then k.toNat else 1 := by decide
  unfold wramBank
  rw [hmax, ite_and]

/-- The echo of C000-DDFF (R70). -/
theorem route_echo (s : State) {a : Word} (h : 0xE000 ≤ a.toNat) (h' : a.toNat < 0xFE00) :
    s.route a = s.route (a - 0x2000#16) := by
  have hsub : (a - 0x2000#16).toNat = a.toNat - 0x2000 := BitVec.toNat_sub_of_le (by
    rw [BitVec.le_def, BitVec.toNat_ofNat]
    omega)
  unfold route
  dsimp only
  rw [hsub, if_neg (by omega), if_neg (by omega), if_neg (by omega), if_neg (by omega), if_neg (by omega), if_pos h',
    if_neg (by omega), if_neg (by omega), if_neg (by omega), if_neg (by omega), if_pos (by omega), Nat.sub_sub]

theorem echo_access (s : State) {a : Word} (v : Byte) (h : 0xE000 ≤ a.toNat) (h' : a.toNat < 0xFE00) :
    s.read a = s.read (a - 0x2000#16) ∧ s.write a v = s.write (a - 0x2000#16) v := by
  have hcell : ∃ i, s.route a = .wram i := by
    obtain ⟨i, hi, -⟩ := wramPlace_eq s (a.toNat - 0xE000)
    rcases route_cases s a with r | r | r | r | ⟨-, -, r⟩ | r | r | r | r | r
    case inr.inr.inr.inr.inl => exact ⟨i, r.trans hi⟩
    all_goals omega
  obtain ⟨i, hi⟩ := hcell
  unfold read write
  rw [← route_echo s h h', hi]
  exact ⟨rfl, rfl⟩

theorem void_access (s : State) {a : Word} (v : Byte) (h : s.route a = .void) : s.read a = 0xFF#8 ∧ s.write a v = s := by
  unfold read write
  rw [h]
  exact ⟨rfl, rfl⟩

theorem unusable_access (s : State) {a : Word} (v : Byte) (h : 0xFEA0 ≤ a.toNat) (h' : a.toNat < 0xFF00) :
    s.read a = 0xFF#8 ∧ s.write a v = s := by
  refine void_access s v ?_
  rcases route_cases s a with r | r | r | r | r | r | ⟨-, -, r⟩ | r | r | r
  case inr.inr.inr.inr.inr.inr.inl => exact r
  all_goals omega

theorem rtc_access (s : State) {a : Word} {r : RtcReg} (v : Byte) (h : s.route a = .rtc r) :
    s.read a = s.mbc.rtc.get r ∧ s.write a v = { s with mbc := { s.mbc with rtc := s.mbc.rtc.set r v } } := by
  unfold read write
  rw [h]
  exact ⟨rfl, rfl⟩

end State

/-! ### External RAM, controller by controller -/

section

variable {c : Cartridge} {m : Mbc} {off : Nat}

theorem eramPlace_off (h : m.ramEnable = false ∨ c.kind = .none) : eramPlace c m off = .void := by
  unfold eramPlace
  rcases h with h | h
  · exact if_pos h
  · rw [h]
    exact ite_self _

theorem eramPlace_mbc1 (hen : m.ramEnable = true) (hk : c.kind = .mbc1) :
    (c.ramBanks = 0 → eramPlace c m off = .void) ∧
    (0 < c.ramBanks → eramPlace c m off =
      .eram (8192 * ((if m.mode then m.bankHi.toNat else 0) % c.ramBanks) + off)) := by
  unfold eramPlace
  rw [hen, if_neg (by decide), hk]
  exact ⟨fun h => if_pos h, fun h => if_neg (Nat.ne_of_gt h)⟩

theorem eramPlace_mbc2 (hen : m.ramEnable = true) (hk : c.kind = .mbc2) :
    eramPlace c m off = .eramNibble (off % 512) := by
  unfold eramPlace
  rw [hen, if_neg (by decide), hk]

theorem eramPlace_mbc3_ram (hen : m.ramEnable = true) (hk : c.kind = .mbc3) (hsel : m.ramSel.toNat < 4) :
    (c.ramBanks = 0 → eramPlace c m off = .void) ∧
    (0 < c.ramBanks → eramPlace c m off = .eram (8192 * (m.ramSel.toNat % c.ramBanks) + off)) := by
  unfold eramPlace
  rw [hen, if_neg (by decide), hk]
  dsimp only
  rw [if_pos hsel]
  exact ⟨fun h => if_pos h, fun h => if_neg (Nat.ne_of_gt h)⟩

theorem eramPlace_mbc3_clock (hen : m.ramEnable = true) (hk : c.kind = .mbc3) (hsel : 4 ≤ m.ramSel.toNat)
    (hrtc : c.hasRtc = true) {r : RtcReg} (hr : rtcSelected m.ramSel = some r) : eramPlace c m off = .rtc r := by
  unfold eramPlace
  rw [hen, if_neg (by decide), hk]
  dsimp only
  rw [if_neg (Nat.not_lt.2 hsel), hr]
  exact if_pos hrtc

theorem eramPlace_mbc3_absent (hen : m.ramEnable = true) (hk : c.kind = .mbc3) (hsel : 4 ≤ m.ramSel.toNat)
    (h : rtcSelected m.ramSel = none ∨ c.hasRtc = false) : eramPlace c m off = .void := by
  unfold eramPlace
  rw [hen, if_neg (by decide), hk]
  dsimp only
  rw [if_neg (Nat.not_lt.2 hsel)]
  rcases h with h | h
  · rw [h]
  · rw [h]
    cases rtcSelected m.ramSel <;> rfl

theorem eramPlace_mbc5 (hen : m.ramEnable = true) (hk : c.kind = .mbc5) :
    (c.ramBanks = 0 → eramPlace c m off = .void) ∧
    (0 < c.ramBanks → eramPlace c m off = .eram (8192 * (m.ramSel.toNat % c.ramBanks) + off)) := by
  unfold eramPlace
  rw [hen, if_neg (by decide), hk]
  exact ⟨fun h => if_pos h, fun h => if_neg (Nat.ne_of_gt h)⟩

end

/-- The clock register a selection gives (R142). -/
theorem rtcSelected_eq : ∀ k : BitVec 4,
    (k.toNat = 8 → rtcSelected k = some .seconds) ∧ (k.toNat = 9 → rtcSelected k = some .minutes) ∧
    (k.toNat = 10 → rtcSelected k = some .hours) ∧ (k.toNat = 11 → rtcSelected k = some .dayLow) ∧
    (k.toNat = 12 → rtcSelected k = some .dayHigh) ∧ (k.toNat < 8 ∨ 12 < k.toNat → rtcSelected k = none) := by
  decide

open State

/-- Settles O53: each window by the place it leads to. -/
theorem echoUnusableExternalRam : Obligations.EchoUnusableExternalRam := by
  intro s a v
  refine ⟨⟨vram_window s v, fun h h' => ?_, fun h h' => ?_, oam_window s v, hram_window s v⟩, echo_access s v,
    unusable_access s v, fun h h' => ?_⟩
  · exact wram_window s v h (by omega) (if_pos h')
  · refine wram_window s v (by omega) h' ?_
    rw [if_neg (by omega), wramBank_eq]
  · have hroute := route_eram s h h'
    have absent (e : eramPlace s.cart s.mbc (a.toNat - 0xA000) = .void) := void_access s v (hroute.trans e)
    have cell {i : Nat} (e : eramPlace s.cart s.mbc (a.toNat - 0xA000) = .eram i) := eram_access s v (hroute.trans e)
    refine ⟨fun hoff => absent (eramPlace_off hoff), fun hen hk => ?_, fun hen hk => ?_, fun hen hk => ?_, fun hen hk => ?_⟩
    · obtain ⟨hnone, hsome⟩ := eramPlace_mbc1 (off := a.toNat - 0xA000) hen hk
      refine ⟨fun hb => absent (hnone hb), fun hb hm => cell ?_, fun hb hm => cell ?_⟩
      · rw [hsome hb, hm, if_neg (by decide), Nat.zero_mod, Nat.mul_zero, Nat.zero_add]
      · rw [hsome hb, hm, if_pos rfl]
    · have hnibble : v &&& 0x0F#8 = BitVec.ofNat 8 (v.toNat % 16) := and_low_eq v (k := 4) (by decide)
      rw [← hnibble]
      exact eramNibble_access s v (hroute.trans (eramPlace_mbc2 hen hk))
    · obtain ⟨seconds, minutes, hours, dayLow, dayHigh, other⟩ := rtcSelected_eq s.mbc.ramSel
      have clock (hrtc : s.cart.hasRtc = true) {k : Nat} (e : s.mbc.ramSel.toNat = k) (hk4 : 4 ≤ k) {r : RtcReg}
          (hr : rtcSelected s.mbc.ramSel = some r) := rtc_access s v
        (hroute.trans (eramPlace_mbc3_clock hen hk (e ▸ hk4) hrtc hr))
      refine ⟨fun hsel hb => absent ((eramPlace_mbc3_ram hen hk hsel).1 hb),
        fun hsel hb => cell ((eramPlace_mbc3_ram hen hk hsel).2 hb), fun hsel hno => ?_, fun hrtc => ?_⟩
      · refine absent (eramPlace_mbc3_absent hen hk hsel ?_)
        rcases hno with hno | hno | hno
        · exact .inl (other (.inl hno))
        · exact .inl (other (.inr hno))
        · exact .inr hno
      · exact ⟨fun e => clock hrtc e (by decide) (seconds e), fun e => clock hrtc e (by decide) (minutes e),
          fun e => clock hrtc e (by decide) (hours e), fun e => clock hrtc e (by decide) (dayLow e),
          fun e => clock hrtc e (by decide) (dayHigh e)⟩
    · obtain ⟨hnone, hsome⟩ := eramPlace_mbc5 (off := a.toNat - 0xA000) hen hk
      exact ⟨fun hb => absent (hnone hb), fun hb => cell (hsome hb)⟩

end Sys2Proof.Machine
end

section
/-! The registers of FF00-FF7F and FFFF (20_memory.md R80, R93; 10_state.md R37, R43): what the partly ignored writes keep,
and the registers of CGB mode. -/

namespace Sys2Proof.Machine

/-! ### Fields of a byte -/

theorem extractLsb'_eq_ofNat (v : Byte) (i k : Nat) : v.extractLsb' i k = BitVec.ofNat k (v.toNat / 2 ^ i) := by
  apply BitVec.eq_of_toNat_eq
  rw [BitVec.extractLsb'_toNat, Nat.shiftRight_eq_div_pow, BitVec.toNat_ofNat]

/-- The high nibble, which HDMA2 and HDMA4 store (R462). -/
theorem toNat_and_0xF0 : ∀ v : Byte, (v &&& 0xF0#8).toNat = v.toNat / 16 * 16 := by decide

theorem getLsbD_seven_iff (v : Byte) : v.getLsbD 7 = true ↔ 128 ≤ v.toNat := by
  have := v.isLt
  rw [BitVec.getLsbD, Nat.testBit, Nat.shiftRight_eq_div_pow]
  simp
  omega

/-- What BCPS and OCPS read back (R43). -/
theorem spec_setSpec (p : PalettePort) (v : Byte) : (p.setSpec v).spec = v ||| 0x40#8 := by
  have h : ∀ v : Byte, BitVec.ofBool (v.getLsbD 7) ++ 1#1 ++ v.extractLsb' 0 6 = v ||| 0x40#8 := by decide
  exact h v

/-! ### The registers of CGB mode -/

/-- The registers that DMG mode does not have (R37, R43, R80). -/
def cgbRegisters : List IoReg :=
  [.vbk, .hdma1, .hdma2, .hdma3, .hdma4, .hdma5, .bcps, .bcpd, .ocps, .ocpd, .svbk]

namespace State

theorem ifCgb_cgb {s : State} (h : s.cart.cgbMode = true) (t : State) : s.ifCgb t = t := if_pos h

theorem cgbOnly_cgb {s : State} (h : s.cart.cgbMode = true) (v : Byte) : s.cgbOnly v = v := if_pos h

theorem cgbRegister_dmg {s : State} (h : s.cart.cgbMode = false) (v : Byte) {r : IoReg} (hr : r ∈ cgbRegisters) :
    s.readIo r = 0xFF#8 ∧ s.writeIo r v = s := by
  have hoff : ¬s.cart.cgbMode = true := by rw [h]; decide
  have hread (x : Byte) : s.cgbOnly x = 0xFF#8 := if_neg hoff
  have hwrite (t : State) : s.ifCgb t = s := if_neg hoff
  simp only [cgbRegisters, List.mem_cons, List.not_mem_nil, or_false] at hr
  rcases hr with rfl | rfl | rfl | rfl | rfl | rfl | rfl | rfl | rfl | rfl | rfl
  case inr.inl | inr.inr.inl | inr.inr.inr.inl | inr.inr.inr.inr.inl => all_goals exact ⟨rfl, hwrite _⟩
  all_goals exact ⟨hread _, hwrite _⟩

/-- The address of the register at offset `n`. -/
theorem io_access_offset (s : State) {n : Nat} (hn : n < 0x80) :
    s.read (BitVec.ofNat 16 (0xFF00 + n)) = s.readIo (ioReg n) ∧
      ∀ v, s.write (BitVec.ofNat 16 (0xFF00 + n)) v = s.writeIo (ioReg n) v := by
  refine io_access s ?_ hn rfl
  rw [BitVec.toNat_ofNat]
  omega

theorem dmg_access {s : State} (h : s.cart.cgbMode = false) (v : Byte) (a : Word)
    (ha : a ∈ ([0xFF4F#16, 0xFF51#16, 0xFF52#16, 0xFF53#16, 0xFF54#16, 0xFF55#16, 0xFF68#16, 0xFF69#16, 0xFF6A#16,
      0xFF6B#16, 0xFF70#16] : List Word)) : s.read a = 0xFF#8 ∧ s.write a v = s := by
  have key : ∀ n ∈ [0x4F, 0x51, 0x52, 0x53, 0x54, 0x55, 0x68, 0x69, 0x6A, 0x6B, 0x70], n < 0x80 ∧
      ioReg n ∈ cgbRegisters := by decide
  obtain ⟨n, hn, rfl⟩ : ∃ n ∈ [0x4F, 0x51, 0x52, 0x53, 0x54, 0x55, 0x68, 0x69, 0x6A, 0x6B, 0x70],
    BitVec.ofNat 16 (0xFF00 + n) = a := List.mem_map.1 ha
  obtain ⟨hn, hr⟩ := key n hn
  obtain ⟨hread, hwrite⟩ := io_access_offset s hn
  rw [hread, hwrite]
  exact cgbRegister_dmg h v hr

/-! A write of each, in CGB mode. -/

section

variable {s : State} (v : Byte) (hc : s.cart.cgbMode = true)

include hc

theorem write_vbk : s.write 0xFF4F#16 v = { s with mem := { s.mem with vbk := BitVec.ofNat 1 v.toNat } } := by
  rw [← extractLsb'_zero_eq_ofNat v 1]
  exact ((io_access s (n := 0x4F) (r := .vbk) rfl (by decide) rfl).2 v).trans (ifCgb_cgb hc _)

theorem write_svbk : s.write 0xFF70#16 v = { s with mem := { s.mem with svbk := BitVec.ofNat 3 v.toNat } } := by
  rw [← extractLsb'_zero_eq_ofNat v 3]
  exact ((io_access s (n := 0x70) (r := .svbk) rfl (by decide) rfl).2 v).trans (ifCgb_cgb hc _)

theorem write_bcps : s.write 0xFF68#16 v = { s with ppu := { s.ppu with bgPal := s.ppu.bgPal.setSpec v } } :=
  ((io_access s (n := 0x68) (r := .bcps) rfl (by decide) rfl).2 v).trans (ifCgb_cgb hc _)

theorem write_ocps : s.write 0xFF6A#16 v = { s with ppu := { s.ppu with objPal := s.ppu.objPal.setSpec v } } :=
  ((io_access s (n := 0x6A) (r := .ocps) rfl (by decide) rfl).2 v).trans (ifCgb_cgb hc _)

theorem write_bcpd : s.write 0xFF69#16 v = { s with ppu := { s.ppu with bgPal := s.ppu.bgPal.setData v } } :=
  ((io_access s (n := 0x69) (r := .bcpd) rfl (by decide) rfl).2 v).trans (ifCgb_cgb hc _)

theorem write_ocpd : s.write 0xFF6B#16 v = { s with ppu := { s.ppu with objPal := s.ppu.objPal.setData v } } :=
  ((io_access s (n := 0x6B) (r := .ocpd) rfl (by decide) rfl).2 v).trans (ifCgb_cgb hc _)

theorem write_hdma1 : s.write 0xFF51#16 v = { s with hdma := { s.hdma with src := v ++ s.hdma.src.lo } } :=
  ((io_access s (n := 0x51) (r := .hdma1) rfl (by decide) rfl).2 v).trans (ifCgb_cgb hc _)

theorem write_hdma2 :
    s.write 0xFF52#16 v = { s with hdma := { s.hdma with src := s.hdma.src.hi ++ (v &&& 0xF0#8) } } :=
  ((io_access s (n := 0x52) (r := .hdma2) rfl (by decide) rfl).2 v).trans (ifCgb_cgb hc _)

theorem write_hdma3 :
    s.write 0xFF53#16 v = { s with hdma := { s.hdma with dst := 4#3 ++ v.extractLsb' 0 5 ++ s.hdma.dst.lo } } :=
  ((io_access s (n := 0x53) (r := .hdma3) rfl (by decide) rfl).2 v).trans (ifCgb_cgb hc _)

theorem write_hdma4 :
    s.write 0xFF54#16 v = { s with hdma := { s.hdma with dst := s.hdma.dst.hi ++ (v &&& 0xF0#8) } } :=
  ((io_access s (n := 0x54) (r := .hdma4) rfl (by decide) rfl).2 v).trans (ifCgb_cgb hc _)

/-- A read of each, in CGB mode. -/
theorem read_vbk : s.read 0xFF4F#16 = 0x7F#7 ++ s.mem.vbk :=
  (io_access s (n := 0x4F) (r := .vbk) rfl (by decide) rfl).1.trans (cgbOnly_cgb hc _)

theorem read_svbk : s.read 0xFF70#16 = 0x1F#5 ++ s.mem.svbk :=
  (io_access s (n := 0x70) (r := .svbk) rfl (by decide) rfl).1.trans (cgbOnly_cgb hc _)

theorem read_bcps : s.read 0xFF68#16 = s.ppu.bgPal.spec :=
  (io_access s (n := 0x68) (r := .bcps) rfl (by decide) rfl).1.trans (cgbOnly_cgb hc _)

theorem read_ocps : s.read 0xFF6A#16 = s.ppu.objPal.spec :=
  (io_access s (n := 0x6A) (r := .ocps) rfl (by decide) rfl).1.trans (cgbOnly_cgb hc _)

theorem read_bcpd : s.read 0xFF69#16 = s.ppu.bgPal.cells.read s.ppu.bgPal.index.toNat :=
  (io_access s (n := 0x69) (r := .bcpd) rfl (by decide) rfl).1.trans (cgbOnly_cgb hc _)

theorem read_ocpd : s.read 0xFF6B#16 = s.ppu.objPal.cells.read s.ppu.objPal.index.toNat :=
  (io_access s (n := 0x6B) (r := .ocpd) rfl (by decide) rfl).1.trans (cgbOnly_cgb hc _)

/-- VBK selects the bank that 8000-9FFF then shows (R37, R66). -/
theorem vbk_selects :
    let t := s.write 0xFF4F#16 v
    t = { s with mem := { s.mem with vbk := BitVec.ofNat 1 v.toNat } } ∧
    t.read 0xFF4F#16 = BitVec.ofNat 8 (0xFE + v.toNat % 2) ∧
    ∀ a : Word, 0x8000 ≤ a.toNat → a.toNat < 0xA000 →
      t.read a = s.mem.vram.read (8192 * (v.toNat % 2) + (a.toNat - 0x8000)) := by
  have hback : ∀ x : BitVec 1, (0x7F#7 ++ x : BitVec 8) = BitVec.ofNat 8 (0xFE + x.toNat) := by decide
  have hc' : (s.write 0xFF4F#16 v).cart.cgbMode = true := by rw [write_cart]; exact hc
  have ht := write_vbk v hc
  have hvbk : (s.write 0xFF4F#16 v).mem.vbk.toNat = v.toNat % 2 := by
    rw [ht]
    exact BitVec.toNat_ofNat _ 1
  refine ⟨ht, ?_, fun a h h' => ?_⟩
  · rw [read_vbk hc', hback, hvbk]
  · have hvram : (s.write 0xFF4F#16 v).mem.vram = s.mem.vram := by rw [ht]
    rw [(vram_access _ 0#8 h h').1, vramBank, if_pos hc', hvbk, hvram]

/-- SVBK selects the bank that D000-DFFF then shows (R37, R69). -/
theorem svbk_selects :
    let t := s.write 0xFF70#16 v
    t = { s with mem := { s.mem with svbk := BitVec.ofNat 3 v.toNat } } ∧
    t.read 0xFF70#16 = BitVec.ofNat 8 (0xF8 + v.toNat % 8) ∧
    ∀ a : Word, 0xD000 ≤ a.toNat → a.toNat < 0xE000 →
      t.read a = s.mem.wram.read (4096 * (if v.toNat % 8 = 0 then 1 else v.toNat % 8) + (a.toNat - 0xD000)) := by
  have hback : ∀ x : BitVec 3, (0x1F#5 ++ x : BitVec 8) = BitVec.ofNat 8 (0xF8 + x.toNat) := by decide
  have hbank : ∀ x : BitVec 3, max 1 x.toNat = if x.toNat = 0 then 1 else x.toNat := by decide
  have hc' : (s.write 0xFF70#16 v).cart.cgbMode = true := by rw [write_cart]; exact hc
  have ht := write_svbk v hc
  have hsvbk : (s.write 0xFF70#16 v).mem.svbk.toNat = v.toNat % 8 := by
    rw [ht]
    exact BitVec.toNat_ofNat _ 3
  refine ⟨ht, ?_, fun a h h' => ?_⟩
  · rw [read_svbk hc', hback, hsvbk]
  · have hwram : (s.write 0xFF70#16 v).mem.wram = s.mem.wram := by rw [ht]
    rw [(wram_access _ 0#8 (by omega) h').1, if_neg (by omega), wramBank, if_pos hc', hbank, hsvbk, hwram]

/-- The index ports of the palettes store the index and its auto-increment (R43). -/
theorem paletteIndex_stores : ∃ b, (b = true ↔ 128 ≤ v.toNat) ∧
    s.write 0xFF68#16 v = { s with ppu := { s.ppu with
      bgPal := { s.ppu.bgPal with index := BitVec.ofNat 6 v.toNat, autoInc := b } } } ∧
    s.write 0xFF6A#16 v = { s with ppu := { s.ppu with
      objPal := { s.ppu.objPal with index := BitVec.ofNat 6 v.toNat, autoInc := b } } } ∧
    (s.write 0xFF68#16 v).read 0xFF68#16 = v ||| 0x40#8 ∧ (s.write 0xFF6A#16 v).read 0xFF6A#16 = v ||| 0x40#8 := by
  have hbg : (s.write 0xFF68#16 v).cart.cgbMode = true := by rw [write_cart]; exact hc
  have hobj : (s.write 0xFF6A#16 v).cart.cgbMode = true := by rw [write_cart]; exact hc
  refine ⟨v.getLsbD 7, getLsbD_seven_iff v, ?_, ?_, ?_, ?_⟩
  · rw [← extractLsb'_zero_eq_ofNat v 6]
    exact write_bcps v hc
  · rw [← extractLsb'_zero_eq_ofNat v 6]
    exact write_ocps v hc
  · rw [read_bcps hbg, write_bcps v hc]
    exact spec_setSpec _ v
  · rw [read_ocps hobj, write_ocps v hc]
    exact spec_setSpec _ v

/-- HDMA1 to HDMA4 store the bytes of the addresses (R462). -/
theorem hdmaAddresses_store : ∃ src dst src' dst' : Word,
    src.toNat = 256 * v.toNat + s.hdma.src.toNat % 256 ∧
    src'.toNat = s.hdma.src.toNat / 256 * 256 + v.toNat / 16 * 16 ∧
    dst.toNat = 0x8000 + 256 * (v.toNat % 32) + s.hdma.dst.toNat % 256 ∧
    dst'.toNat = s.hdma.dst.toNat / 256 * 256 + v.toNat / 16 * 16 ∧
    s.write 0xFF51#16 v = { s with hdma := { s.hdma with src := src } } ∧
    s.write 0xFF52#16 v = { s with hdma := { s.hdma with src := src' } } ∧
    s.write 0xFF53#16 v = { s with hdma := { s.hdma with dst := dst } } ∧
    s.write 0xFF54#16 v = { s with hdma := { s.hdma with dst := dst' } } := by
  have hlow (w : Word) : (w.hi ++ (v &&& 0xF0#8) : Word).toNat = w.toNat / 256 * 256 + v.toNat / 16 * 16 := by
    rw [show (w.hi ++ (v &&& 0xF0#8) : Word).toNat = _ from toNat_ofBytes w.hi _, toNat_hi, toNat_and_0xF0, Nat.mul_comm]
  refine ⟨_, _, _, _, ?_, hlow s.hdma.src, ?_, hlow s.hdma.dst, write_hdma1 v hc, write_hdma2 v hc, write_hdma3 v hc,
    write_hdma4 v hc⟩
  · rw [← toNat_lo]
    exact toNat_ofBytes v _
  · rw [← toNat_lo]
    exact toNat_hdma3 v _

end

theorem read_hdma_address (s : State) (a : Word)
    (ha : a ∈ ([0xFF51#16, 0xFF52#16, 0xFF53#16, 0xFF54#16] : List Word)) : s.read a = 0xFF#8 := by
  have key : ∀ n ∈ [0x51, 0x52, 0x53, 0x54], n < 0x80 ∧ s.readIo (ioReg n) = 0xFF#8 := by
    simp only [List.mem_cons, List.not_mem_nil, or_false]
    rintro n (rfl | rfl | rfl | rfl) <;> exact ⟨by decide, rfl⟩
  obtain ⟨n, hn, rfl⟩ : ∃ n ∈ [0x51, 0x52, 0x53, 0x54], BitVec.ofNat 16 (0xFF00 + n) = a := List.mem_map.1 ha
  obtain ⟨hn, hr⟩ := key n hn
  rw [(io_access_offset s hn).1, hr]

theorem ie_access (s : State) (v : Byte) :
    PlainRegister s 0xFFFF#16 v s.irq.enable { s with irq := { s.irq with enable := v } } where
  reads := rfl
  write := rfl
  back := rfl

end State

open State

/-- Settles O54: each register by its offset in the I/O window. -/
theorem partialWrites : Obligations.PartialWrites := by
  intro s v
  have hflags : ∀ x : BitVec 5, (7#3 ++ x : BitVec 8) = 0xE0#8 ||| x.setWidth 8 := by decide
  have htac : ∀ x : BitVec 3, (0x1F#5 ++ x : BitVec 8) = 0xF8#8 ||| x.setWidth 8 := by decide
  have write {a : Word} {n : Nat} {r : IoReg} (h : a.toNat = 0xFF00 + n) (hn : n < 0x80) (hr : ioReg n = r) :
      s.write a v = s.writeIo r v := (io_access s h hn hr).2 v
  have read {a : Word} {n : Nat} {r : IoReg} (h : a.toNat = 0xFF00 + n) (hn : n < 0x80) (hr : ioReg n = r) :
      s.read a = s.readIo r := (io_access s h hn hr).1
  have plain {a : Word} {n : Nat} {r : IoReg} (h : a.toNat = 0xFF00 + n) (hn : n < 0x80) (hr : ioReg n = r)
      (hb : (s.writeIo r v).readIo r = v) := plainRegister s v h hn hr hb
  have hstat : v.extractLsb' 3 4 = BitVec.ofNat 4 (v.toNat / 8) := extractLsb'_eq_ofNat v 3 4
  have hselect : v.extractLsb' 4 2 = BitVec.ofNat 2 (v.toNat / 16) := extractLsb'_eq_ofNat v 4 2
  refine ⟨?_, ?_, ?_, ?_, ?_, ?_, ?_, ?_, ie_access s v, ?_, ?_, ?_, ?_, ?_, ?_⟩
  · exact write (n := 0x04) (r := .div) rfl (by decide) rfl
  · exact write (n := 0x44) (r := .ly) rfl (by decide) rfl
  · rw [← hstat]
    exact write (n := 0x41) (r := .stat) rfl (by decide) rfl
  · rw [← extractLsb'_zero_eq_ofNat v 5]
    exact write (n := 0x0F) (r := .irqFlags) rfl (by decide) rfl
  · rw [← extractLsb'_zero_eq_ofNat v 3]
    exact write (n := 0x07) (r := .tac) rfl (by decide) rfl
  · rw [← hselect]
    exact write (n := 0x00) (r := .p1) rfl (by decide) rfl
  · rw [← hflags]
    exact read (n := 0x0F) (r := .irqFlags) rfl (by decide) rfl
  · rw [← htac]
    exact read (n := 0x07) (r := .tac) rfl (by decide) rfl
  · exact read (n := 0x04) (r := .div) rfl (by decide) rfl
  · exact read (n := 0x44) (r := .ly) rfl (by decide) rfl
  · exact read (n := 0x46) (r := .dma) rfl (by decide) rfl
  · rw [read (n := 0x00) (r := .p1) rfl (by decide) rfl]
    exact p1Reads s.joypad
  · rw [read (n := 0x41) (r := .stat) rfl (by decide) rfl]
    exact stat_toNat s
  · refine ⟨plain (n := 0x01) (r := .sb) rfl (by decide) rfl rfl, plain (n := 0x02) (r := .sc) rfl (by decide) rfl rfl,
      plain (n := 0x05) (r := .tima) rfl (by decide) rfl rfl, plain (n := 0x06) (r := .tma) rfl (by decide) rfl rfl,
      plain (n := 0x40) (r := .lcdc) rfl (by decide) rfl rfl, plain (n := 0x42) (r := .scy) rfl (by decide) rfl rfl,
      plain (n := 0x43) (r := .scx) rfl (by decide) rfl rfl, plain (n := 0x45) (r := .lyc) rfl (by decide) rfl rfl,
      plain (n := 0x47) (r := .bgp) rfl (by decide) rfl rfl, plain (n := 0x48) (r := .obp0) rfl (by decide) rfl rfl,
      plain (n := 0x49) (r := .obp1) rfl (by decide) rfl rfl, plain (n := 0x4A) (r := .wy) rfl (by decide) rfl rfl,
      plain (n := 0x4B) (r := .wx) rfl (by decide) rfl rfl, fun a h h' hn => ?_, fun hc a ha => ?_, fun hc => ?_⟩
    · obtain ⟨⟨io, hio⟩, hback, hother⟩ := storage_write s v h h' hn
      refine ⟨?_, hback, hother⟩
      rw [hio]
    · exact dmg_access hc v a ha
    · exact ⟨vbk_selects v hc, svbk_selects v hc, paletteIndex_stores v hc,
        ⟨read_bcpd hc, _, paletteStores_setData _ v, write_bcpd v hc⟩,
        ⟨read_ocpd hc, _, paletteStores_setData _ v, write_ocpd v hc⟩, hdmaAddresses_store v hc, read_hdma_address s⟩

end Sys2Proof.Machine
end

section
/-! Saving and loading external RAM (21_cartridge_mbc.md R160, R161): the bytes of a memory give it back. -/

namespace Sys2Proof.Memory

/-- A cell reads as the fixed byte, or it is listed with the byte it reads as. -/
theorem read_eq_unlisted_or_mem (m : Memory) (i : Nat) : m.read i = unlisted ∨ (i, m.read i) ∈ m := by
  induction m with
  | nil => exact .inl rfl
  | cons p rest ih =>
    obtain ⟨k, w⟩ := p
    unfold read
    split
    next h => exact .inr (h ▸ List.mem_cons_self)
    next => exact ih.imp_right (List.mem_cons_of_mem _)

/-- A property of the fixed byte and of every listed one holds of every byte of a stretch. -/
theorem forall_mem_toBytes {m : Memory} {P : Byte → Prop} (h0 : P unlisted) (h : ∀ c ∈ m, P c.2) (i n : Nat) :
    ∀ b ∈ m.toBytes i n, P b := by
  have hread (k : Nat) : P (m.read k) := by
    rcases read_eq_unlisted_or_mem m k with e | e
    · exact e ▸ h0
    · exact h _ e
  induction n generalizing i with
  | zero => exact fun b hb => absurd hb List.not_mem_nil
  | succ n ih =>
    intro b hb
    rcases List.mem_cons.1 hb with rfl | hb
    · exact hread i
    · exact ih _ b hb

/-- A canonical memory is given back by its first `n` bytes, where it lists no other. -/
theorem ofBytes_toBytes {m : Memory} {n : Nat} (hm : m.wf) (hn : ∀ c ∈ m, c.1 < n) : ofBytes 0 (m.toBytes 0 n) = m := by
  refine ext_of_read (wf_ofBytes _ _) hm fun i => ?_
  rw [read_ofBytes, if_pos (Nat.zero_le i), Nat.sub_zero]
  by_cases hi : i < n
  · rw [getD_toBytes m 0 n i hi, Nat.zero_add]
  · rw [List.getD_eq_default _ _ (by rw [length_toBytes]; omega),
      read_of_forall_ne fun c hc (e : c.1 = i) => hi (e ▸ hn c hc)]

end Sys2Proof.Memory

namespace Sys2Proof.Machine

open State

theorem and_0x0F_of_lt {b : Byte} (h : b.toNat < 16) : b &&& 0x0F#8 = b := by
  have hlow : b &&& 0x0F#8 = BitVec.ofNat 8 (b.toNat % 16) := and_low_eq b (k := 4) (by decide)
  rw [hlow, Nat.mod_eq_of_lt h, BitVec.ofNat_toNat, BitVec.setWidth_eq]

/-- The blob of a cartridge's external RAM gives it back; MBC2 stores nibbles (R125, R160). -/
theorem eramOf_toBytes {c : Cartridge} {eram : Memory} (hwf : eram.wf) (hsize : ∀ x ∈ eram, x.1 < c.eramBytes)
    (hnibble : c.kind = .mbc2 → ∀ x ∈ eram, x.2.toNat < 16) : eramOf c (some (eram.toBytes 0 c.eramBytes)) = eram := by
  have hback := Memory.ofBytes_toBytes hwf hsize
  unfold eramOf
  dsimp only
  rw [if_pos (Memory.length_toBytes _ _ _)]
  cases hk : c.kind
  case mbc2 =>
    have hkeep : ∀ b ∈ eram.toBytes 0 c.eramBytes, b &&& 0x0F#8 = b :=
      Memory.forall_mem_toBytes (P := fun b => b &&& 0x0F#8 = b) (and_0x0F_of_lt (by decide)) (fun x hx => and_0x0F_of_lt (hnibble hk x hx)) _ _
    exact (congrArg (Memory.ofBytes 0) ((List.map_congr_left hkeep).trans (List.map_id' _))).trans hback
  all_goals exact hback

/-- Settles O56: the blob is the cells of external RAM in order. -/
theorem saveRoundTrip : Obligations.SaveRoundTrip := by
  intro s hm hsize hnibble
  constructor
  · intro hb
    refine ⟨_, if_pos hb, Memory.length_toBytes _ _ _, fun config => ⟨_, if_pos hb, ?_⟩⟩
    exact eramOf_toBytes hm.eram hsize hnibble
  · intro hb
    have hno : ¬s.cart.hasBattery = true := by rw [hb]; decide
    exact ⟨if_neg hno, fun blob => if_neg hno⟩

end Sys2Proof.Machine
end

section
/-! Reset (70_reset_and_hazards.md R480 to R482). -/

namespace Sys2Proof.Machine

open State

namespace State

/-- P1 with both groups selected and no button pressed, and STAT in the search of line 0 (R396, R424). -/
theorem powerOn_reads (config : Config) (cart : Cartridge) (eram : Memory) :
    (powerOn config cart eram).read 0xFF00#16 = 0xCF#8 ∧ (powerOn config cart eram).read 0xFF41#16 = 0x86#8 := by
  have hreleased : (3#2 ++ 0#2 ++ Joypad.nibble { select := 0#2, buttons := ⟨false, false, false, false, false, false,
      false, false⟩ } : BitVec 8) = 0xCF#8 := by decide
  exact ⟨(io_access _ (n := 0x00) (r := .p1) rfl (by decide) rfl).1.trans hreleased,
    (io_access _ (n := 0x41) (r := .stat) rfl (by decide) rfl).1.trans (BitVec.eq_of_toNat_eq (stat_toNat _))⟩

end State

/-- Settles O57: the rows are the fields of `powerOn`, in the order of the table. -/
theorem resetValues : Obligations.ResetValues := by
  refine ⟨fun config cart eram => ?_, fun i => ⟨rfl, rfl, rfl, rfl, rfl, rfl, rfl, rfl⟩⟩
  obtain ⟨hp1, hstat⟩ := powerOn_reads config cart eram
  have hbank : (powerOn config cart eram).mbc.bankLo = if cart.kind = .mbc5 then 1#8 else 0#8 := by
    unfold powerOn
    cases cart.kind <;> rfl
  refine ⟨rfl, rfl, rfl, rfl, rfl, hp1, rfl, rfl, rfl, rfl, rfl, rfl, rfl, rfl, hstat, rfl, rfl, rfl, rfl, rfl, rfl, rfl,
    rfl, rfl, rfl, rfl, rfl, rfl, rfl, rfl, ?_, rfl, rfl⟩
  rw [← hbank]
  rfl

/-- Settles O58: each memory is the parameter's or empty. -/
theorem invariantAtReset : Obligations.InvariantAtReset := by
  have hpowerOn : ∀ (config : Config) (cart : Cartridge) (eram : Memory), cart.rom.wf → eram.wf →
      config.initMemory.vram.wf → config.initMemory.wram.wf → config.initMemory.oam.wf → config.initMemory.hram.wf →
      config.initMemory.io.wf → config.initMemory.bgPal.wf → config.initMemory.objPal.wf →
      (powerOn config cart eram).Inv := by
    intro config cart eram hrom heram hvram hwram hoam hhram hio hbg hobj
    have hflags : 0xB0#8 &&& 0x0F#8 = 0x00#8 := by decide
    have hdst : (0x8000#16).toNat % 16 = 0 ∧ 0x8000 ≤ (0x8000#16).toNat ∧ (0x8000#16).toNat ≤ 0x9FF0 := by decide
    exact ⟨hflags, ⟨hrom, hvram, hwram, hoam, hhram, hio, hbg, hobj, heram⟩, ⟨Nat.zero_lt_succ _, Nat.zero_lt_succ _⟩,
      ⟨rfl, hdst⟩, fun _ => rfl⟩
  refine ⟨?_, hpowerOn⟩
  have hnil := Memory.wf_nil
  exact hpowerOn _ _ _ hnil hnil hnil hnil hnil hnil hnil hnil hnil

end Sys2Proof.Machine
end
